-- ==== Sys2Proof/Word.lean ====
section
/-! DEFINITION. The two word widths of the core (R8: 8-bit registers and bus bytes, 16-bit pairs, SP, PC and
addresses) and the names of the operand families (R110 to R115, R305, R306). Nothing here computes. -/

namespace Sys2Proof

/-- A `u8` of R10: an 8-bit register, or one byte moved by the bus. -/
abbrev Byte := BitVec 8

/-- A `u16` of R10: a register pair, SP, PC or a bus address. -/
abbrev Word := BitVec 16

/-- The seven 8-bit data registers of R100. -/
inductive Reg8
  | a | b | c | d | e | h | l
  deriving DecidableEq, Repr

/-- The register-index family `r8` of R110, in its order B, C, D, E, H, L, (HL), A. -/
inductive R8
  | b | c | d | e | h | l | atHl | a
  deriving DecidableEq, Repr

/-- The register-pair family `rp` of R111: BC, DE, HL, SP. -/
inductive Rp
  | bc | de | hl | sp
  deriving DecidableEq, Repr

/-- The register-pair family `rp2` of PUSH and POP, R112: BC, DE, HL, AF. -/
inductive Rp2
  | bc | de | hl | af
  deriving DecidableEq, Repr

/-- The indirect-pair family `ind` of R113: (BC), (DE), (HL+), (HL-). -/
inductive Ind
  | bc | de | hlInc | hlDec
  deriving DecidableEq, Repr

/-- The condition family `cc` of R114: NZ, Z, NC, C. -/
inductive Cond
  | nz | z | nc | c
  deriving DecidableEq, Repr

/-- A 3-bit field used as a number: the bit number of BIT, RES and SET (R1009), the vector index of RST (R115). -/
inductive Octal
  | n0 | n1 | n2 | n3 | n4 | n5 | n6 | n7
  deriving DecidableEq, Repr

/-- The eight accumulator operations in the order of R305. -/
inductive AluOp
  | add | adc | sub | sbc | and | xor | or | cp
  deriving DecidableEq, Repr

/-- The eight CB rotates and shifts in the order of R306. -/
inductive ShiftOp
  | rlc | rrc | rl | rr | sla | sra | swap | srl
  deriving DecidableEq, Repr

end Sys2Proof
end

