-- ==== Sys2Proof/Config.lean ====
section
/-! DEFINITION. What one build of the core fixes: the named parameters of R9 and the one byte the model itself
chooses. `BUS`, the third parameter of R9, is plain data in State (log entry 3). -/

namespace Sys2Proof

/-- `STOP_LENGTH` of R9 and R902: how many bytes a STOP instruction has. -/
inductive StopLength
  | one | two
  deriving DecidableEq, Repr

/-- `RESET_PROFILE` of R9 and R130: which reset values the core takes. -/
inductive ResetProfile
  | zero | dmgPostBoot
  deriving DecidableEq, Repr

namespace Config

/-- R9: `STOP_LENGTH` is 2 by the spec's own decision (92 D6). -/
def stopLength : StopLength := .two

/-- DESIGN CHOICE (log entry 1): the spec leaves `RESET_PROFILE` OPEN (R130, 92 D13).
`ZERO` is the profile that takes no value from outside the source. -/
def resetProfile : ResetProfile := .zero

/-- DESIGN CHOICE (log entry 2): what a RAM byte that nothing has written reads as.
The spec fixes no memory contents at reset (R131, 93 I6). -/
def unlistedByte : Byte := 0x00#8

end Config

end Sys2Proof
end

