-- ==== Sys2Proof/Syntax.lean ====
section
/-! DEFINITION. The instructions: one constructor per row of `opcode_table.json` (R304, R305, R306, R320): 244 base
rows, 11 illegal rows, 256 CB rows. The rows with operand bytes stand first (the compiler numbers only the first 244
constructors that carry data), then the others, each group in the table's order. `n` is an `n8`, `e` an `e8`, `nn` an `n16` of R303. -/

namespace Sys2Proof

/-- An instruction of the base set or of the CB-prefixed set (R3). The comment gives the table's first byte, or the
byte after 0xCB, the spec's spelling of the instruction, and the rule of its meaning. -/
inductive Instr
  | ldBcN16 (nn : Word) -- 0x01 LD BC,n16, R502
  | ldBN8 (n : Byte) -- 0x06 LD B,n8, R403
  | ldAtN16Sp (nn : Word) -- 0x08 LD (n16),SP, R503
  | ldCN8 (n : Byte) -- 0x0E LD C,n8, R403
  | stop (ignored : Byte) -- 0x10 STOP, R902
  | ldDeN16 (nn : Word) -- 0x11 LD DE,n16, R502
  | ldDN8 (n : Byte) -- 0x16 LD D,n8, R403
  | jrE8 (e : Byte) -- 0x18 JR e8, R1104
  | ldEN8 (n : Byte) -- 0x1E LD E,n8, R403
  | jrNzE8 (e : Byte) -- 0x20 JR NZ,e8, R1105
  | ldHlN16 (nn : Word) -- 0x21 LD HL,n16, R502
  | ldHN8 (n : Byte) -- 0x26 LD H,n8, R403
  | jrZE8 (e : Byte) -- 0x28 JR Z,e8, R1105
  | ldLN8 (n : Byte) -- 0x2E LD L,n8, R403
  | jrNcE8 (e : Byte) -- 0x30 JR NC,e8, R1105
  | ldSpN16 (nn : Word) -- 0x31 LD SP,n16, R502
  | ldAtHlN8 (n : Byte) -- 0x36 LD (HL),n8, R404
  | jrCE8 (e : Byte) -- 0x38 JR C,e8, R1105
  | ldAN8 (n : Byte) -- 0x3E LD A,n8, R403
  | jpNzN16 (nn : Word) -- 0xC2 JP NZ,n16, R1102
  | jpN16 (nn : Word) -- 0xC3 JP n16, R1101
  | callNzN16 (nn : Word) -- 0xC4 CALL NZ,n16, R1107
  | addAN8 (n : Byte) -- 0xC6 ADD A,n8, R603
  | jpZN16 (nn : Word) -- 0xCA JP Z,n16, R1102
  | callZN16 (nn : Word) -- 0xCC CALL Z,n16, R1107
  | callN16 (nn : Word) -- 0xCD CALL n16, R1106
  | adcAN8 (n : Byte) -- 0xCE ADC A,n8, R605
  | jpNcN16 (nn : Word) -- 0xD2 JP NC,n16, R1102
  | callNcN16 (nn : Word) -- 0xD4 CALL NC,n16, R1107
  | subN8 (n : Byte) -- 0xD6 SUB n8, R607
  | jpCN16 (nn : Word) -- 0xDA JP C,n16, R1102
  | callCN16 (nn : Word) -- 0xDC CALL C,n16, R1107
  | sbcAN8 (n : Byte) -- 0xDE SBC A,n8, R609
  | ldhAtN8A (n : Byte) -- 0xE0 LDH (n8),A, R415
  | andN8 (n : Byte) -- 0xE6 AND n8, R611
  | addSpE8 (e : Byte) -- 0xE8 ADD SP,e8, R804
  | ldAtN16A (nn : Word) -- 0xEA LD (n16),A, R413
  | xorN8 (n : Byte) -- 0xEE XOR n8, R613
  | ldhAAtN8 (n : Byte) -- 0xF0 LDH A,(n8), R416
  | orN8 (n : Byte) -- 0xF6 OR n8, R615
  | ldHlSpE8 (e : Byte) -- 0xF8 LD HL,SP+e8, R805
  | ldAAtN16 (nn : Word) -- 0xFA LD A,(n16), R414
  | cpN8 (n : Byte) -- 0xFE CP n8, R617
  | nop -- 0x00 NOP, R900
  | ldAtBcA -- 0x02 LD (BC),A, R405
  | incBc -- 0x03 INC BC, R802
  | incB -- 0x04 INC B, R618
  | decB -- 0x05 DEC B, R619
  | rlca -- 0x07 RLCA, R700
  | addHlBc -- 0x09 ADD HL,BC, R801
  | ldAAtBc -- 0x0A LD A,(BC), R409
  | decBc -- 0x0B DEC BC, R803
  | incC -- 0x0C INC C, R618
  | decC -- 0x0D DEC C, R619
  | rrca -- 0x0F RRCA, R701
  | ldAtDeA -- 0x12 LD (DE),A, R406
  | incDe -- 0x13 INC DE, R802
  | incD -- 0x14 INC D, R618
  | decD -- 0x15 DEC D, R619
  | rla -- 0x17 RLA, R702
  | addHlDe -- 0x19 ADD HL,DE, R801
  | ldAAtDe -- 0x1A LD A,(DE), R410
  | decDe -- 0x1B DEC DE, R803
  | incE -- 0x1C INC E, R618
  | decE -- 0x1D DEC E, R619
  | rra -- 0x1F RRA, R703
  | ldAtHlIncA -- 0x22 LD (HL+),A, R407
  | incHl -- 0x23 INC HL, R802
  | incH -- 0x24 INC H, R618
  | decH -- 0x25 DEC H, R619
  | daa -- 0x27 DAA, R704
  | addHlHl -- 0x29 ADD HL,HL, R801
  | ldAAtHlInc -- 0x2A LD A,(HL+), R411
  | decHl -- 0x2B DEC HL, R803
  | incL -- 0x2C INC L, R618
  | decL -- 0x2D DEC L, R619
  | cpl -- 0x2F CPL, R705
  | ldAtHlDecA -- 0x32 LD (HL-),A, R408
  | incSp -- 0x33 INC SP, R802
  | incAtHl -- 0x34 INC (HL), R618
  | decAtHl -- 0x35 DEC (HL), R619
  | scf -- 0x37 SCF, R706
  | addHlSp -- 0x39 ADD HL,SP, R801
  | ldAAtHlDec -- 0x3A LD A,(HL-), R412
  | decSp -- 0x3B DEC SP, R803
  | incA -- 0x3C INC A, R618
  | decA -- 0x3D DEC A, R619
  | ccf -- 0x3F CCF, R707
  | ldBB -- 0x40 LD B,B, R400
  | ldBC -- 0x41 LD B,C, R400
  | ldBD -- 0x42 LD B,D, R400
  | ldBE -- 0x43 LD B,E, R400
  | ldBH -- 0x44 LD B,H, R400
  | ldBL -- 0x45 LD B,L, R400
  | ldBAtHl -- 0x46 LD B,(HL), R401
  | ldBA -- 0x47 LD B,A, R400
  | ldCB -- 0x48 LD C,B, R400
  | ldCC -- 0x49 LD C,C, R400
  | ldCD -- 0x4A LD C,D, R400
  | ldCE -- 0x4B LD C,E, R400
  | ldCH -- 0x4C LD C,H, R400
  | ldCL -- 0x4D LD C,L, R400
  | ldCAtHl -- 0x4E LD C,(HL), R401
  | ldCA -- 0x4F LD C,A, R400
  | ldDB -- 0x50 LD D,B, R400
  | ldDC -- 0x51 LD D,C, R400
  | ldDD -- 0x52 LD D,D, R400
  | ldDE -- 0x53 LD D,E, R400
  | ldDH -- 0x54 LD D,H, R400
  | ldDL -- 0x55 LD D,L, R400
  | ldDAtHl -- 0x56 LD D,(HL), R401
  | ldDA -- 0x57 LD D,A, R400
  | ldEB -- 0x58 LD E,B, R400
  | ldEC -- 0x59 LD E,C, R400
  | ldED -- 0x5A LD E,D, R400
  | ldEE -- 0x5B LD E,E, R400
  | ldEH -- 0x5C LD E,H, R400
  | ldEL -- 0x5D LD E,L, R400
  | ldEAtHl -- 0x5E LD E,(HL), R401
  | ldEA -- 0x5F LD E,A, R400
  | ldHB -- 0x60 LD H,B, R400
  | ldHC -- 0x61 LD H,C, R400
  | ldHD -- 0x62 LD H,D, R400
  | ldHE -- 0x63 LD H,E, R400
  | ldHH -- 0x64 LD H,H, R400
  | ldHL -- 0x65 LD H,L, R400
  | ldHAtHl -- 0x66 LD H,(HL), R401
  | ldHA -- 0x67 LD H,A, R400
  | ldLB -- 0x68 LD L,B, R400
  | ldLC -- 0x69 LD L,C, R400
  | ldLD -- 0x6A LD L,D, R400
  | ldLE -- 0x6B LD L,E, R400
  | ldLH -- 0x6C LD L,H, R400
  | ldLL -- 0x6D LD L,L, R400
  | ldLAtHl -- 0x6E LD L,(HL), R401
  | ldLA -- 0x6F LD L,A, R400
  | ldAtHlB -- 0x70 LD (HL),B, R402
  | ldAtHlC -- 0x71 LD (HL),C, R402
  | ldAtHlD -- 0x72 LD (HL),D, R402
  | ldAtHlE -- 0x73 LD (HL),E, R402
  | ldAtHlH -- 0x74 LD (HL),H, R402
  | ldAtHlL -- 0x75 LD (HL),L, R402
  | halt -- 0x76 HALT, R901
  | ldAtHlA -- 0x77 LD (HL),A, R402
  | ldAB -- 0x78 LD A,B, R400
  | ldAC -- 0x79 LD A,C, R400
  | ldAD -- 0x7A LD A,D, R400
  | ldAE -- 0x7B LD A,E, R400
  | ldAH -- 0x7C LD A,H, R400
  | ldAL -- 0x7D LD A,L, R400
  | ldAAtHl -- 0x7E LD A,(HL), R401
  | ldAA -- 0x7F LD A,A, R400
  | addAB -- 0x80 ADD A,B, R602
  | addAC -- 0x81 ADD A,C, R602
  | addAD -- 0x82 ADD A,D, R602
  | addAE -- 0x83 ADD A,E, R602
  | addAH -- 0x84 ADD A,H, R602
  | addAL -- 0x85 ADD A,L, R602
  | addAAtHl -- 0x86 ADD A,(HL), R602
  | addAA -- 0x87 ADD A,A, R602
  | adcAB -- 0x88 ADC A,B, R604
  | adcAC -- 0x89 ADC A,C, R604
  | adcAD -- 0x8A ADC A,D, R604
  | adcAE -- 0x8B ADC A,E, R604
  | adcAH -- 0x8C ADC A,H, R604
  | adcAL -- 0x8D ADC A,L, R604
  | adcAAtHl -- 0x8E ADC A,(HL), R604
  | adcAA -- 0x8F ADC A,A, R604
  | subB -- 0x90 SUB B, R606
  | subC -- 0x91 SUB C, R606
  | subD -- 0x92 SUB D, R606
  | subE -- 0x93 SUB E, R606
  | subH -- 0x94 SUB H, R606
  | subL -- 0x95 SUB L, R606
  | subAtHl -- 0x96 SUB (HL), R606
  | subA -- 0x97 SUB A, R606
  | sbcAB -- 0x98 SBC A,B, R608
  | sbcAC -- 0x99 SBC A,C, R608
  | sbcAD -- 0x9A SBC A,D, R608
  | sbcAE -- 0x9B SBC A,E, R608
  | sbcAH -- 0x9C SBC A,H, R608
  | sbcAL -- 0x9D SBC A,L, R608
  | sbcAAtHl -- 0x9E SBC A,(HL), R608
  | sbcAA -- 0x9F SBC A,A, R608
  | andB -- 0xA0 AND B, R610
  | andC -- 0xA1 AND C, R610
  | andD -- 0xA2 AND D, R610
  | andE -- 0xA3 AND E, R610
  | andH -- 0xA4 AND H, R610
  | andL -- 0xA5 AND L, R610
  | andAtHl -- 0xA6 AND (HL), R610
  | andA -- 0xA7 AND A, R610
  | xorB -- 0xA8 XOR B, R612
  | xorC -- 0xA9 XOR C, R612
  | xorD -- 0xAA XOR D, R612
  | xorE -- 0xAB XOR E, R612
  | xorH -- 0xAC XOR H, R612
  | xorL -- 0xAD XOR L, R612
  | xorAtHl -- 0xAE XOR (HL), R612
  | xorA -- 0xAF XOR A, R612
  | orB -- 0xB0 OR B, R614
  | orC -- 0xB1 OR C, R614
  | orD -- 0xB2 OR D, R614
  | orE -- 0xB3 OR E, R614
  | orH -- 0xB4 OR H, R614
  | orL -- 0xB5 OR L, R614
  | orAtHl -- 0xB6 OR (HL), R614
  | orA -- 0xB7 OR A, R614
  | cpB -- 0xB8 CP B, R616
  | cpC -- 0xB9 CP C, R616
  | cpD -- 0xBA CP D, R616
  | cpE -- 0xBB CP E, R616
  | cpH -- 0xBC CP H, R616
  | cpL -- 0xBD CP L, R616
  | cpAtHl -- 0xBE CP (HL), R616
  | cpA -- 0xBF CP A, R616
  | retNz -- 0xC0 RET NZ, R1110
  | popBc -- 0xC1 POP BC, R507
  | pushBc -- 0xC5 PUSH BC, R505
  | rst00 -- 0xC7 RST 0x00, R1111
  | retZ -- 0xC8 RET Z, R1110
  | ret -- 0xC9 RET, R1108
  | rst08 -- 0xCF RST 0x08, R1111
  | retNc -- 0xD0 RET NC, R1110
  | popDe -- 0xD1 POP DE, R507
  | illegalD3 -- 0xD3 ILLEGAL 0xD3, R905
  | pushDe -- 0xD5 PUSH DE, R505
  | rst10 -- 0xD7 RST 0x10, R1111
  | retC -- 0xD8 RET C, R1110
  | reti -- 0xD9 RETI, R1109
  | illegalDB -- 0xDB ILLEGAL 0xDB, R905
  | illegalDD -- 0xDD ILLEGAL 0xDD, R905
  | rst18 -- 0xDF RST 0x18, R1111
  | popHl -- 0xE1 POP HL, R507
  | ldAtCA -- 0xE2 LD (C),A, R417
  | illegalE3 -- 0xE3 ILLEGAL 0xE3, R905
  | illegalE4 -- 0xE4 ILLEGAL 0xE4, R905
  | pushHl -- 0xE5 PUSH HL, R505
  | rst20 -- 0xE7 RST 0x20, R1111
  | jpHl -- 0xE9 JP HL, R1103
  | illegalEB -- 0xEB ILLEGAL 0xEB, R905
  | illegalEC -- 0xEC ILLEGAL 0xEC, R905
  | illegalED -- 0xED ILLEGAL 0xED, R905
  | rst28 -- 0xEF RST 0x28, R1111
  | popAf -- 0xF1 POP AF, R508
  | ldAAtC -- 0xF2 LD A,(C), R418
  | di -- 0xF3 DI, R903
  | illegalF4 -- 0xF4 ILLEGAL 0xF4, R905
  | pushAf -- 0xF5 PUSH AF, R506
  | rst30 -- 0xF7 RST 0x30, R1111
  | ldSpHl -- 0xF9 LD SP,HL, R504
  | ei -- 0xFB EI, R904
  | illegalFC -- 0xFC ILLEGAL 0xFC, R905
  | illegalFD -- 0xFD ILLEGAL 0xFD, R905
  | rst38 -- 0xFF RST 0x38, R1111
  | cbRlcB -- CB 0x00 RLC B, R1001
  | cbRlcC -- CB 0x01 RLC C, R1001
  | cbRlcD -- CB 0x02 RLC D, R1001
  | cbRlcE -- CB 0x03 RLC E, R1001
  | cbRlcH -- CB 0x04 RLC H, R1001
  | cbRlcL -- CB 0x05 RLC L, R1001
  | cbRlcAtHl -- CB 0x06 RLC (HL), R1001
  | cbRlcA -- CB 0x07 RLC A, R1001
  | cbRrcB -- CB 0x08 RRC B, R1002
  | cbRrcC -- CB 0x09 RRC C, R1002
  | cbRrcD -- CB 0x0A RRC D, R1002
  | cbRrcE -- CB 0x0B RRC E, R1002
  | cbRrcH -- CB 0x0C RRC H, R1002
  | cbRrcL -- CB 0x0D RRC L, R1002
  | cbRrcAtHl -- CB 0x0E RRC (HL), R1002
  | cbRrcA -- CB 0x0F RRC A, R1002
  | cbRlB -- CB 0x10 RL B, R1003
  | cbRlC -- CB 0x11 RL C, R1003
  | cbRlD -- CB 0x12 RL D, R1003
  | cbRlE -- CB 0x13 RL E, R1003
  | cbRlH -- CB 0x14 RL H, R1003
  | cbRlL -- CB 0x15 RL L, R1003
  | cbRlAtHl -- CB 0x16 RL (HL), R1003
  | cbRlA -- CB 0x17 RL A, R1003
  | cbRrB -- CB 0x18 RR B, R1004
  | cbRrC -- CB 0x19 RR C, R1004
  | cbRrD -- CB 0x1A RR D, R1004
  | cbRrE -- CB 0x1B RR E, R1004
  | cbRrH -- CB 0x1C RR H, R1004
  | cbRrL -- CB 0x1D RR L, R1004
  | cbRrAtHl -- CB 0x1E RR (HL), R1004
  | cbRrA -- CB 0x1F RR A, R1004
  | cbSlaB -- CB 0x20 SLA B, R1005
  | cbSlaC -- CB 0x21 SLA C, R1005
  | cbSlaD -- CB 0x22 SLA D, R1005
  | cbSlaE -- CB 0x23 SLA E, R1005
  | cbSlaH -- CB 0x24 SLA H, R1005
  | cbSlaL -- CB 0x25 SLA L, R1005
  | cbSlaAtHl -- CB 0x26 SLA (HL), R1005
  | cbSlaA -- CB 0x27 SLA A, R1005
  | cbSraB -- CB 0x28 SRA B, R1006
  | cbSraC -- CB 0x29 SRA C, R1006
  | cbSraD -- CB 0x2A SRA D, R1006
  | cbSraE -- CB 0x2B SRA E, R1006
  | cbSraH -- CB 0x2C SRA H, R1006
  | cbSraL -- CB 0x2D SRA L, R1006
  | cbSraAtHl -- CB 0x2E SRA (HL), R1006
  | cbSraA -- CB 0x2F SRA A, R1006
  | cbSwapB -- CB 0x30 SWAP B, R1007
  | cbSwapC -- CB 0x31 SWAP C, R1007
  | cbSwapD -- CB 0x32 SWAP D, R1007
  | cbSwapE -- CB 0x33 SWAP E, R1007
  | cbSwapH -- CB 0x34 SWAP H, R1007
  | cbSwapL -- CB 0x35 SWAP L, R1007
  | cbSwapAtHl -- CB 0x36 SWAP (HL), R1007
  | cbSwapA -- CB 0x37 SWAP A, R1007
  | cbSrlB -- CB 0x38 SRL B, R1008
  | cbSrlC -- CB 0x39 SRL C, R1008
  | cbSrlD -- CB 0x3A SRL D, R1008
  | cbSrlE -- CB 0x3B SRL E, R1008
  | cbSrlH -- CB 0x3C SRL H, R1008
  | cbSrlL -- CB 0x3D SRL L, R1008
  | cbSrlAtHl -- CB 0x3E SRL (HL), R1008
  | cbSrlA -- CB 0x3F SRL A, R1008
  | cbBit0B -- CB 0x40 BIT 0,B, R1009
  | cbBit0C -- CB 0x41 BIT 0,C, R1009
  | cbBit0D -- CB 0x42 BIT 0,D, R1009
  | cbBit0E -- CB 0x43 BIT 0,E, R1009
  | cbBit0H -- CB 0x44 BIT 0,H, R1009
  | cbBit0L -- CB 0x45 BIT 0,L, R1009
  | cbBit0AtHl -- CB 0x46 BIT 0,(HL), R1009
  | cbBit0A -- CB 0x47 BIT 0,A, R1009
  | cbBit1B -- CB 0x48 BIT 1,B, R1009
  | cbBit1C -- CB 0x49 BIT 1,C, R1009
  | cbBit1D -- CB 0x4A BIT 1,D, R1009
  | cbBit1E -- CB 0x4B BIT 1,E, R1009
  | cbBit1H -- CB 0x4C BIT 1,H, R1009
  | cbBit1L -- CB 0x4D BIT 1,L, R1009
  | cbBit1AtHl -- CB 0x4E BIT 1,(HL), R1009
  | cbBit1A -- CB 0x4F BIT 1,A, R1009
  | cbBit2B -- CB 0x50 BIT 2,B, R1009
  | cbBit2C -- CB 0x51 BIT 2,C, R1009
  | cbBit2D -- CB 0x52 BIT 2,D, R1009
  | cbBit2E -- CB 0x53 BIT 2,E, R1009
  | cbBit2H -- CB 0x54 BIT 2,H, R1009
  | cbBit2L -- CB 0x55 BIT 2,L, R1009
  | cbBit2AtHl -- CB 0x56 BIT 2,(HL), R1009
  | cbBit2A -- CB 0x57 BIT 2,A, R1009
  | cbBit3B -- CB 0x58 BIT 3,B, R1009
  | cbBit3C -- CB 0x59 BIT 3,C, R1009
  | cbBit3D -- CB 0x5A BIT 3,D, R1009
  | cbBit3E -- CB 0x5B BIT 3,E, R1009
  | cbBit3H -- CB 0x5C BIT 3,H, R1009
  | cbBit3L -- CB 0x5D BIT 3,L, R1009
  | cbBit3AtHl -- CB 0x5E BIT 3,(HL), R1009
  | cbBit3A -- CB 0x5F BIT 3,A, R1009
  | cbBit4B -- CB 0x60 BIT 4,B, R1009
  | cbBit4C -- CB 0x61 BIT 4,C, R1009
  | cbBit4D -- CB 0x62 BIT 4,D, R1009
  | cbBit4E -- CB 0x63 BIT 4,E, R1009
  | cbBit4H -- CB 0x64 BIT 4,H, R1009
  | cbBit4L -- CB 0x65 BIT 4,L, R1009
  | cbBit4AtHl -- CB 0x66 BIT 4,(HL), R1009
  | cbBit4A -- CB 0x67 BIT 4,A, R1009
  | cbBit5B -- CB 0x68 BIT 5,B, R1009
  | cbBit5C -- CB 0x69 BIT 5,C, R1009
  | cbBit5D -- CB 0x6A BIT 5,D, R1009
  | cbBit5E -- CB 0x6B BIT 5,E, R1009
  | cbBit5H -- CB 0x6C BIT 5,H, R1009
  | cbBit5L -- CB 0x6D BIT 5,L, R1009
  | cbBit5AtHl -- CB 0x6E BIT 5,(HL), R1009
  | cbBit5A -- CB 0x6F BIT 5,A, R1009
  | cbBit6B -- CB 0x70 BIT 6,B, R1009
  | cbBit6C -- CB 0x71 BIT 6,C, R1009
  | cbBit6D -- CB 0x72 BIT 6,D, R1009
  | cbBit6E -- CB 0x73 BIT 6,E, R1009
  | cbBit6H -- CB 0x74 BIT 6,H, R1009
  | cbBit6L -- CB 0x75 BIT 6,L, R1009
  | cbBit6AtHl -- CB 0x76 BIT 6,(HL), R1009
  | cbBit6A -- CB 0x77 BIT 6,A, R1009
  | cbBit7B -- CB 0x78 BIT 7,B, R1009
  | cbBit7C -- CB 0x79 BIT 7,C, R1009
  | cbBit7D -- CB 0x7A BIT 7,D, R1009
  | cbBit7E -- CB 0x7B BIT 7,E, R1009
  | cbBit7H -- CB 0x7C BIT 7,H, R1009
  | cbBit7L -- CB 0x7D BIT 7,L, R1009
  | cbBit7AtHl -- CB 0x7E BIT 7,(HL), R1009
  | cbBit7A -- CB 0x7F BIT 7,A, R1009
  | cbRes0B -- CB 0x80 RES 0,B, R1010
  | cbRes0C -- CB 0x81 RES 0,C, R1010
  | cbRes0D -- CB 0x82 RES 0,D, R1010
  | cbRes0E -- CB 0x83 RES 0,E, R1010
  | cbRes0H -- CB 0x84 RES 0,H, R1010
  | cbRes0L -- CB 0x85 RES 0,L, R1010
  | cbRes0AtHl -- CB 0x86 RES 0,(HL), R1010
  | cbRes0A -- CB 0x87 RES 0,A, R1010
  | cbRes1B -- CB 0x88 RES 1,B, R1010
  | cbRes1C -- CB 0x89 RES 1,C, R1010
  | cbRes1D -- CB 0x8A RES 1,D, R1010
  | cbRes1E -- CB 0x8B RES 1,E, R1010
  | cbRes1H -- CB 0x8C RES 1,H, R1010
  | cbRes1L -- CB 0x8D RES 1,L, R1010
  | cbRes1AtHl -- CB 0x8E RES 1,(HL), R1010
  | cbRes1A -- CB 0x8F RES 1,A, R1010
  | cbRes2B -- CB 0x90 RES 2,B, R1010
  | cbRes2C -- CB 0x91 RES 2,C, R1010
  | cbRes2D -- CB 0x92 RES 2,D, R1010
  | cbRes2E -- CB 0x93 RES 2,E, R1010
  | cbRes2H -- CB 0x94 RES 2,H, R1010
  | cbRes2L -- CB 0x95 RES 2,L, R1010
  | cbRes2AtHl -- CB 0x96 RES 2,(HL), R1010
  | cbRes2A -- CB 0x97 RES 2,A, R1010
  | cbRes3B -- CB 0x98 RES 3,B, R1010
  | cbRes3C -- CB 0x99 RES 3,C, R1010
  | cbRes3D -- CB 0x9A RES 3,D, R1010
  | cbRes3E -- CB 0x9B RES 3,E, R1010
  | cbRes3H -- CB 0x9C RES 3,H, R1010
  | cbRes3L -- CB 0x9D RES 3,L, R1010
  | cbRes3AtHl -- CB 0x9E RES 3,(HL), R1010
  | cbRes3A -- CB 0x9F RES 3,A, R1010
  | cbRes4B -- CB 0xA0 RES 4,B, R1010
  | cbRes4C -- CB 0xA1 RES 4,C, R1010
  | cbRes4D -- CB 0xA2 RES 4,D, R1010
  | cbRes4E -- CB 0xA3 RES 4,E, R1010
  | cbRes4H -- CB 0xA4 RES 4,H, R1010
  | cbRes4L -- CB 0xA5 RES 4,L, R1010
  | cbRes4AtHl -- CB 0xA6 RES 4,(HL), R1010
  | cbRes4A -- CB 0xA7 RES 4,A, R1010
  | cbRes5B -- CB 0xA8 RES 5,B, R1010
  | cbRes5C -- CB 0xA9 RES 5,C, R1010
  | cbRes5D -- CB 0xAA RES 5,D, R1010
  | cbRes5E -- CB 0xAB RES 5,E, R1010
  | cbRes5H -- CB 0xAC RES 5,H, R1010
  | cbRes5L -- CB 0xAD RES 5,L, R1010
  | cbRes5AtHl -- CB 0xAE RES 5,(HL), R1010
  | cbRes5A -- CB 0xAF RES 5,A, R1010
  | cbRes6B -- CB 0xB0 RES 6,B, R1010
  | cbRes6C -- CB 0xB1 RES 6,C, R1010
  | cbRes6D -- CB 0xB2 RES 6,D, R1010
  | cbRes6E -- CB 0xB3 RES 6,E, R1010
  | cbRes6H -- CB 0xB4 RES 6,H, R1010
  | cbRes6L -- CB 0xB5 RES 6,L, R1010
  | cbRes6AtHl -- CB 0xB6 RES 6,(HL), R1010
  | cbRes6A -- CB 0xB7 RES 6,A, R1010
  | cbRes7B -- CB 0xB8 RES 7,B, R1010
  | cbRes7C -- CB 0xB9 RES 7,C, R1010
  | cbRes7D -- CB 0xBA RES 7,D, R1010
  | cbRes7E -- CB 0xBB RES 7,E, R1010
  | cbRes7H -- CB 0xBC RES 7,H, R1010
  | cbRes7L -- CB 0xBD RES 7,L, R1010
  | cbRes7AtHl -- CB 0xBE RES 7,(HL), R1010
  | cbRes7A -- CB 0xBF RES 7,A, R1010
  | cbSet0B -- CB 0xC0 SET 0,B, R1011
  | cbSet0C -- CB 0xC1 SET 0,C, R1011
  | cbSet0D -- CB 0xC2 SET 0,D, R1011
  | cbSet0E -- CB 0xC3 SET 0,E, R1011
  | cbSet0H -- CB 0xC4 SET 0,H, R1011
  | cbSet0L -- CB 0xC5 SET 0,L, R1011
  | cbSet0AtHl -- CB 0xC6 SET 0,(HL), R1011
  | cbSet0A -- CB 0xC7 SET 0,A, R1011
  | cbSet1B -- CB 0xC8 SET 1,B, R1011
  | cbSet1C -- CB 0xC9 SET 1,C, R1011
  | cbSet1D -- CB 0xCA SET 1,D, R1011
  | cbSet1E -- CB 0xCB SET 1,E, R1011
  | cbSet1H -- CB 0xCC SET 1,H, R1011
  | cbSet1L -- CB 0xCD SET 1,L, R1011
  | cbSet1AtHl -- CB 0xCE SET 1,(HL), R1011
  | cbSet1A -- CB 0xCF SET 1,A, R1011
  | cbSet2B -- CB 0xD0 SET 2,B, R1011
  | cbSet2C -- CB 0xD1 SET 2,C, R1011
  | cbSet2D -- CB 0xD2 SET 2,D, R1011
  | cbSet2E -- CB 0xD3 SET 2,E, R1011
  | cbSet2H -- CB 0xD4 SET 2,H, R1011
  | cbSet2L -- CB 0xD5 SET 2,L, R1011
  | cbSet2AtHl -- CB 0xD6 SET 2,(HL), R1011
  | cbSet2A -- CB 0xD7 SET 2,A, R1011
  | cbSet3B -- CB 0xD8 SET 3,B, R1011
  | cbSet3C -- CB 0xD9 SET 3,C, R1011
  | cbSet3D -- CB 0xDA SET 3,D, R1011
  | cbSet3E -- CB 0xDB SET 3,E, R1011
  | cbSet3H -- CB 0xDC SET 3,H, R1011
  | cbSet3L -- CB 0xDD SET 3,L, R1011
  | cbSet3AtHl -- CB 0xDE SET 3,(HL), R1011
  | cbSet3A -- CB 0xDF SET 3,A, R1011
  | cbSet4B -- CB 0xE0 SET 4,B, R1011
  | cbSet4C -- CB 0xE1 SET 4,C, R1011
  | cbSet4D -- CB 0xE2 SET 4,D, R1011
  | cbSet4E -- CB 0xE3 SET 4,E, R1011
  | cbSet4H -- CB 0xE4 SET 4,H, R1011
  | cbSet4L -- CB 0xE5 SET 4,L, R1011
  | cbSet4AtHl -- CB 0xE6 SET 4,(HL), R1011
  | cbSet4A -- CB 0xE7 SET 4,A, R1011
  | cbSet5B -- CB 0xE8 SET 5,B, R1011
  | cbSet5C -- CB 0xE9 SET 5,C, R1011
  | cbSet5D -- CB 0xEA SET 5,D, R1011
  | cbSet5E -- CB 0xEB SET 5,E, R1011
  | cbSet5H -- CB 0xEC SET 5,H, R1011
  | cbSet5L -- CB 0xED SET 5,L, R1011
  | cbSet5AtHl -- CB 0xEE SET 5,(HL), R1011
  | cbSet5A -- CB 0xEF SET 5,A, R1011
  | cbSet6B -- CB 0xF0 SET 6,B, R1011
  | cbSet6C -- CB 0xF1 SET 6,C, R1011
  | cbSet6D -- CB 0xF2 SET 6,D, R1011
  | cbSet6E -- CB 0xF3 SET 6,E, R1011
  | cbSet6H -- CB 0xF4 SET 6,H, R1011
  | cbSet6L -- CB 0xF5 SET 6,L, R1011
  | cbSet6AtHl -- CB 0xF6 SET 6,(HL), R1011
  | cbSet6A -- CB 0xF7 SET 6,A, R1011
  | cbSet7B -- CB 0xF8 SET 7,B, R1011
  | cbSet7C -- CB 0xF9 SET 7,C, R1011
  | cbSet7D -- CB 0xFA SET 7,D, R1011
  | cbSet7E -- CB 0xFB SET 7,E, R1011
  | cbSet7H -- CB 0xFC SET 7,H, R1011
  | cbSet7L -- CB 0xFD SET 7,L, R1011
  | cbSet7AtHl -- CB 0xFE SET 7,(HL), R1011
  | cbSet7A -- CB 0xFF SET 7,A, R1011
  deriving DecidableEq, Repr

end Sys2Proof
end

