-- ==== Sys2Proof/WellFormed.lean ====
section
/-! DEFINITION. Which terms of `Instr` are instructions. The operand types carry every bound of the spec's fields,
so the one thing left to check is the ignored byte of STOP. -/

namespace Sys2Proof

/-- R902: STOP has an ignored second byte only where `STOP_LENGTH` is 2. Where it is 1 there is no such byte, and the
one term that stands for STOP then is `stop 0x00`. Every other term is an instruction whatever its operands (R303). -/
def Instr.wellFormed (len : StopLength) : Instr → Bool
  | .stop ignored => len == .two || ignored == 0x00#8
  | _ => true

end Sys2Proof
end

