-- ==== Sys2Proof/Decode.lean ====
section
/-! DEFINITION. Bytes to instructions and back. The DECODER reads the fields x, y, z, p, q of R302 and follows the field
patterns of R304 to R306; the ENCODER writes each instruction's bytes from the rows of `opcode_table.json`. The two are
written from different parts of the spec, so that their agreement says something of both. -/

namespace Sys2Proof

/-! Byte order and sign extension (R10, R11, R203) -/

/-- R10, `concat(hi, lo)`. -/
def concat (hi lo : Byte) : Word := hi ++ lo

/-- Bits 15 to 8 of a word. -/
def highByte (v : Word) : Byte := v.extractLsb' 8 8

/-- Bits 7 to 0 of a word. -/
def lowByte (v : Word) : Byte := v.extractLsb' 0 8

/-- R11, `sext_16(b)`: the two's-complement reading of a byte as a word. -/
def sext16 (b : Byte) : Word := b.signExtend 16

/-! The fields of an opcode byte (R302) -/

/-- R302: the block, bits 7 to 6. -/
def fieldX (op : Byte) : Nat := op.toNat / 64

/-- R302: bits 5 to 3. -/
def fieldY (op : Byte) : Nat := op.toNat / 8 % 8

/-- R302: bits 2 to 0. -/
def fieldZ (op : Byte) : Nat := op.toNat % 8

/-- R302: bits 5 to 4. -/
def fieldP (op : Byte) : Nat := op.toNat / 16 % 4

/-- R302: bit 3. -/
def fieldQ (op : Byte) : Nat := op.toNat / 8 % 2

/-- R302, R1100: the condition field, bits 4 to 3. -/
def fieldC (op : Byte) : Nat := op.toNat / 8 % 4

/-! The operand families by index -/

/-- R110: `r8[i]`. -/
def R8.ofIndex : Nat → R8
  | 0 => .b
  | 1 => .c
  | 2 => .d
  | 3 => .e
  | 4 => .h
  | 5 => .l
  | 6 => .atHl
  | _ => .a

/-- R111: `rp[p]`. -/
def Rp.ofIndex : Nat → Rp
  | 0 => .bc
  | 1 => .de
  | 2 => .hl
  | _ => .sp

/-- R112: `rp2[q]`. -/
def Rp2.ofIndex : Nat → Rp2
  | 0 => .bc
  | 1 => .de
  | 2 => .hl
  | _ => .af

/-- R113: `ind[p]`. -/
def Ind.ofIndex : Nat → Ind
  | 0 => .bc
  | 1 => .de
  | 2 => .hlInc
  | _ => .hlDec

/-- R114: `cc[c]`. -/
def Cond.ofIndex : Nat → Cond
  | 0 => .nz
  | 1 => .z
  | 2 => .nc
  | _ => .c

/-- R305: the accumulator operation numbered y. -/
def AluOp.ofIndex : Nat → AluOp
  | 0 => .add
  | 1 => .adc
  | 2 => .sub
  | 3 => .sbc
  | 4 => .and
  | 5 => .xor
  | 6 => .or
  | _ => .cp

/-- R306: the rotate or shift numbered y. -/
def ShiftOp.ofIndex : Nat → ShiftOp
  | 0 => .rlc
  | 1 => .rrc
  | 2 => .rl
  | 3 => .rr
  | 4 => .sla
  | 5 => .sra
  | 6 => .swap
  | _ => .srl

/-- R302: a 3-bit field used as a number. -/
def Octal.ofIndex : Nat → Octal
  | 0 => .n0
  | 1 => .n1
  | 2 => .n2
  | 3 => .n3
  | 4 => .n4
  | 5 => .n5
  | 6 => .n6
  | _ => .n7

/-- The number a 3-bit field holds. -/
def Octal.toNat : Octal → Nat
  | .n0 => 0
  | .n1 => 1
  | .n2 => 2
  | .n3 => 3
  | .n4 => 4
  | .n5 => 5
  | .n6 => 6
  | .n7 => 7

/-! The instruction of each field pattern -/

/-- R305, `01 y z`: LD of an `r8` operand from an `r8` operand; where both are (HL) it is HALT (R307). -/
def Instr.load (k : R8) (m : R8) : Instr :=
  match k with
  | .b =>
    match m with
    | .b => .ldBB
    | .c => .ldBC
    | .d => .ldBD
    | .e => .ldBE
    | .h => .ldBH
    | .l => .ldBL
    | .atHl => .ldBAtHl
    | .a => .ldBA
  | .c =>
    match m with
    | .b => .ldCB
    | .c => .ldCC
    | .d => .ldCD
    | .e => .ldCE
    | .h => .ldCH
    | .l => .ldCL
    | .atHl => .ldCAtHl
    | .a => .ldCA
  | .d =>
    match m with
    | .b => .ldDB
    | .c => .ldDC
    | .d => .ldDD
    | .e => .ldDE
    | .h => .ldDH
    | .l => .ldDL
    | .atHl => .ldDAtHl
    | .a => .ldDA
  | .e =>
    match m with
    | .b => .ldEB
    | .c => .ldEC
    | .d => .ldED
    | .e => .ldEE
    | .h => .ldEH
    | .l => .ldEL
    | .atHl => .ldEAtHl
    | .a => .ldEA
  | .h =>
    match m with
    | .b => .ldHB
    | .c => .ldHC
    | .d => .ldHD
    | .e => .ldHE
    | .h => .ldHH
    | .l => .ldHL
    | .atHl => .ldHAtHl
    | .a => .ldHA
  | .l =>
    match m with
    | .b => .ldLB
    | .c => .ldLC
    | .d => .ldLD
    | .e => .ldLE
    | .h => .ldLH
    | .l => .ldLL
    | .atHl => .ldLAtHl
    | .a => .ldLA
  | .atHl =>
    match m with
    | .b => .ldAtHlB
    | .c => .ldAtHlC
    | .d => .ldAtHlD
    | .e => .ldAtHlE
    | .h => .ldAtHlH
    | .l => .ldAtHlL
    | .atHl => .halt
    | .a => .ldAtHlA
  | .a =>
    match m with
    | .b => .ldAB
    | .c => .ldAC
    | .d => .ldAD
    | .e => .ldAE
    | .h => .ldAH
    | .l => .ldAL
    | .atHl => .ldAAtHl
    | .a => .ldAA

/-- R305, `10 y z`: an accumulator operation on an `r8` operand. -/
def Instr.alu (k : AluOp) (m : R8) : Instr :=
  match k with
  | .add =>
    match m with
    | .b => .addAB
    | .c => .addAC
    | .d => .addAD
    | .e => .addAE
    | .h => .addAH
    | .l => .addAL
    | .atHl => .addAAtHl
    | .a => .addAA
  | .adc =>
    match m with
    | .b => .adcAB
    | .c => .adcAC
    | .d => .adcAD
    | .e => .adcAE
    | .h => .adcAH
    | .l => .adcAL
    | .atHl => .adcAAtHl
    | .a => .adcAA
  | .sub =>
    match m with
    | .b => .subB
    | .c => .subC
    | .d => .subD
    | .e => .subE
    | .h => .subH
    | .l => .subL
    | .atHl => .subAtHl
    | .a => .subA
  | .sbc =>
    match m with
    | .b => .sbcAB
    | .c => .sbcAC
    | .d => .sbcAD
    | .e => .sbcAE
    | .h => .sbcAH
    | .l => .sbcAL
    | .atHl => .sbcAAtHl
    | .a => .sbcAA
  | .and =>
    match m with
    | .b => .andB
    | .c => .andC
    | .d => .andD
    | .e => .andE
    | .h => .andH
    | .l => .andL
    | .atHl => .andAtHl
    | .a => .andA
  | .xor =>
    match m with
    | .b => .xorB
    | .c => .xorC
    | .d => .xorD
    | .e => .xorE
    | .h => .xorH
    | .l => .xorL
    | .atHl => .xorAtHl
    | .a => .xorA
  | .or =>
    match m with
    | .b => .orB
    | .c => .orC
    | .d => .orD
    | .e => .orE
    | .h => .orH
    | .l => .orL
    | .atHl => .orAtHl
    | .a => .orA
  | .cp =>
    match m with
    | .b => .cpB
    | .c => .cpC
    | .d => .cpD
    | .e => .cpE
    | .h => .cpH
    | .l => .cpL
    | .atHl => .cpAtHl
    | .a => .cpA

/-- R304, `11 y 110`: an accumulator operation on an immediate. -/
def Instr.aluImm (m : AluOp) (n : Byte) : Instr :=
  match m with
  | .add => .addAN8 n
  | .adc => .adcAN8 n
  | .sub => .subN8 n
  | .sbc => .sbcAN8 n
  | .and => .andN8 n
  | .xor => .xorN8 n
  | .or => .orN8 n
  | .cp => .cpN8 n

/-- R304, `00 y 100`: INC of an `r8` operand. -/
def Instr.inc (m : R8) : Instr :=
  match m with
  | .b => .incB
  | .c => .incC
  | .d => .incD
  | .e => .incE
  | .h => .incH
  | .l => .incL
  | .atHl => .incAtHl
  | .a => .incA

/-- R304, `00 y 101`: DEC of an `r8` operand. -/
def Instr.dec (m : R8) : Instr :=
  match m with
  | .b => .decB
  | .c => .decC
  | .d => .decD
  | .e => .decE
  | .h => .decH
  | .l => .decL
  | .atHl => .decAtHl
  | .a => .decA

/-- R304, `00 y 110`: LD of an `r8` operand from an immediate. -/
def Instr.loadImm (m : R8) (n : Byte) : Instr :=
  match m with
  | .b => .ldBN8 n
  | .c => .ldCN8 n
  | .d => .ldDN8 n
  | .e => .ldEN8 n
  | .h => .ldHN8 n
  | .l => .ldLN8 n
  | .atHl => .ldAtHlN8 n
  | .a => .ldAN8 n

/-- R304, `00 p 0001`: LD rp,n16. -/
def Instr.loadRp (m : Rp) (nn : Word) : Instr :=
  match m with
  | .bc => .ldBcN16 nn
  | .de => .ldDeN16 nn
  | .hl => .ldHlN16 nn
  | .sp => .ldSpN16 nn

/-- R304, `00 p 1001`: ADD HL,rp. -/
def Instr.addHl (m : Rp) : Instr :=
  match m with
  | .bc => .addHlBc
  | .de => .addHlDe
  | .hl => .addHlHl
  | .sp => .addHlSp

/-- R304, `00 p 0011`: INC rp. -/
def Instr.incRp (m : Rp) : Instr :=
  match m with
  | .bc => .incBc
  | .de => .incDe
  | .hl => .incHl
  | .sp => .incSp

/-- R304, `00 p 1011`: DEC rp. -/
def Instr.decRp (m : Rp) : Instr :=
  match m with
  | .bc => .decBc
  | .de => .decDe
  | .hl => .decHl
  | .sp => .decSp

/-- R304, `00 p 0010`: LD (ind),A. -/
def Instr.storeInd (m : Ind) : Instr :=
  match m with
  | .bc => .ldAtBcA
  | .de => .ldAtDeA
  | .hlInc => .ldAtHlIncA
  | .hlDec => .ldAtHlDecA

/-- R304, `00 p 1010`: LD A,(ind). -/
def Instr.loadInd (m : Ind) : Instr :=
  match m with
  | .bc => .ldAAtBc
  | .de => .ldAAtDe
  | .hlInc => .ldAAtHlInc
  | .hlDec => .ldAAtHlDec

/-- R304, `11 p 0101`: PUSH rp2. -/
def Instr.push (m : Rp2) : Instr :=
  match m with
  | .bc => .pushBc
  | .de => .pushDe
  | .hl => .pushHl
  | .af => .pushAf

/-- R304, `11 p 0001`: POP rp2. -/
def Instr.pop (m : Rp2) : Instr :=
  match m with
  | .bc => .popBc
  | .de => .popDe
  | .hl => .popHl
  | .af => .popAf

/-- R304, `001 c 000`: JR cc,e8. -/
def Instr.jrCond (m : Cond) (e : Byte) : Instr :=
  match m with
  | .nz => .jrNzE8 e
  | .z => .jrZE8 e
  | .nc => .jrNcE8 e
  | .c => .jrCE8 e

/-- R304, `110 c 010`: JP cc,n16. -/
def Instr.jpCond (m : Cond) (nn : Word) : Instr :=
  match m with
  | .nz => .jpNzN16 nn
  | .z => .jpZN16 nn
  | .nc => .jpNcN16 nn
  | .c => .jpCN16 nn

/-- R304, `110 c 100`: CALL cc,n16. -/
def Instr.callCond (m : Cond) (nn : Word) : Instr :=
  match m with
  | .nz => .callNzN16 nn
  | .z => .callZN16 nn
  | .nc => .callNcN16 nn
  | .c => .callCN16 nn

/-- R304, `110 c 000`: RET cc. -/
def Instr.retCond (m : Cond) : Instr :=
  match m with
  | .nz => .retNz
  | .z => .retZ
  | .nc => .retNc
  | .c => .retC

/-- R304, `11 y 111`: RST y*8. -/
def Instr.rst (m : Octal) : Instr :=
  match m with
  | .n0 => .rst00
  | .n1 => .rst08
  | .n2 => .rst10
  | .n3 => .rst18
  | .n4 => .rst20
  | .n5 => .rst28
  | .n6 => .rst30
  | .n7 => .rst38

/-- R306, CB `00 y z`: a rotate or shift of an `r8` operand. -/
def Instr.shift (k : ShiftOp) (m : R8) : Instr :=
  match k with
  | .rlc =>
    match m with
    | .b => .cbRlcB
    | .c => .cbRlcC
    | .d => .cbRlcD
    | .e => .cbRlcE
    | .h => .cbRlcH
    | .l => .cbRlcL
    | .atHl => .cbRlcAtHl
    | .a => .cbRlcA
  | .rrc =>
    match m with
    | .b => .cbRrcB
    | .c => .cbRrcC
    | .d => .cbRrcD
    | .e => .cbRrcE
    | .h => .cbRrcH
    | .l => .cbRrcL
    | .atHl => .cbRrcAtHl
    | .a => .cbRrcA
  | .rl =>
    match m with
    | .b => .cbRlB
    | .c => .cbRlC
    | .d => .cbRlD
    | .e => .cbRlE
    | .h => .cbRlH
    | .l => .cbRlL
    | .atHl => .cbRlAtHl
    | .a => .cbRlA
  | .rr =>
    match m with
    | .b => .cbRrB
    | .c => .cbRrC
    | .d => .cbRrD
    | .e => .cbRrE
    | .h => .cbRrH
    | .l => .cbRrL
    | .atHl => .cbRrAtHl
    | .a => .cbRrA
  | .sla =>
    match m with
    | .b => .cbSlaB
    | .c => .cbSlaC
    | .d => .cbSlaD
    | .e => .cbSlaE
    | .h => .cbSlaH
    | .l => .cbSlaL
    | .atHl => .cbSlaAtHl
    | .a => .cbSlaA
  | .sra =>
    match m with
    | .b => .cbSraB
    | .c => .cbSraC
    | .d => .cbSraD
    | .e => .cbSraE
    | .h => .cbSraH
    | .l => .cbSraL
    | .atHl => .cbSraAtHl
    | .a => .cbSraA
  | .swap =>
    match m with
    | .b => .cbSwapB
    | .c => .cbSwapC
    | .d => .cbSwapD
    | .e => .cbSwapE
    | .h => .cbSwapH
    | .l => .cbSwapL
    | .atHl => .cbSwapAtHl
    | .a => .cbSwapA
  | .srl =>
    match m with
    | .b => .cbSrlB
    | .c => .cbSrlC
    | .d => .cbSrlD
    | .e => .cbSrlE
    | .h => .cbSrlH
    | .l => .cbSrlL
    | .atHl => .cbSrlAtHl
    | .a => .cbSrlA

/-- R306, CB `01 y z`: BIT y of an `r8` operand. -/
def Instr.bit (k : Octal) (m : R8) : Instr :=
  match k with
  | .n0 =>
    match m with
    | .b => .cbBit0B
    | .c => .cbBit0C
    | .d => .cbBit0D
    | .e => .cbBit0E
    | .h => .cbBit0H
    | .l => .cbBit0L
    | .atHl => .cbBit0AtHl
    | .a => .cbBit0A
  | .n1 =>
    match m with
    | .b => .cbBit1B
    | .c => .cbBit1C
    | .d => .cbBit1D
    | .e => .cbBit1E
    | .h => .cbBit1H
    | .l => .cbBit1L
    | .atHl => .cbBit1AtHl
    | .a => .cbBit1A
  | .n2 =>
    match m with
    | .b => .cbBit2B
    | .c => .cbBit2C
    | .d => .cbBit2D
    | .e => .cbBit2E
    | .h => .cbBit2H
    | .l => .cbBit2L
    | .atHl => .cbBit2AtHl
    | .a => .cbBit2A
  | .n3 =>
    match m with
    | .b => .cbBit3B
    | .c => .cbBit3C
    | .d => .cbBit3D
    | .e => .cbBit3E
    | .h => .cbBit3H
    | .l => .cbBit3L
    | .atHl => .cbBit3AtHl
    | .a => .cbBit3A
  | .n4 =>
    match m with
    | .b => .cbBit4B
    | .c => .cbBit4C
    | .d => .cbBit4D
    | .e => .cbBit4E
    | .h => .cbBit4H
    | .l => .cbBit4L
    | .atHl => .cbBit4AtHl
    | .a => .cbBit4A
  | .n5 =>
    match m with
    | .b => .cbBit5B
    | .c => .cbBit5C
    | .d => .cbBit5D
    | .e => .cbBit5E
    | .h => .cbBit5H
    | .l => .cbBit5L
    | .atHl => .cbBit5AtHl
    | .a => .cbBit5A
  | .n6 =>
    match m with
    | .b => .cbBit6B
    | .c => .cbBit6C
    | .d => .cbBit6D
    | .e => .cbBit6E
    | .h => .cbBit6H
    | .l => .cbBit6L
    | .atHl => .cbBit6AtHl
    | .a => .cbBit6A
  | .n7 =>
    match m with
    | .b => .cbBit7B
    | .c => .cbBit7C
    | .d => .cbBit7D
    | .e => .cbBit7E
    | .h => .cbBit7H
    | .l => .cbBit7L
    | .atHl => .cbBit7AtHl
    | .a => .cbBit7A

/-- R306, CB `10 y z`: RES y of an `r8` operand. -/
def Instr.res (k : Octal) (m : R8) : Instr :=
  match k with
  | .n0 =>
    match m with
    | .b => .cbRes0B
    | .c => .cbRes0C
    | .d => .cbRes0D
    | .e => .cbRes0E
    | .h => .cbRes0H
    | .l => .cbRes0L
    | .atHl => .cbRes0AtHl
    | .a => .cbRes0A
  | .n1 =>
    match m with
    | .b => .cbRes1B
    | .c => .cbRes1C
    | .d => .cbRes1D
    | .e => .cbRes1E
    | .h => .cbRes1H
    | .l => .cbRes1L
    | .atHl => .cbRes1AtHl
    | .a => .cbRes1A
  | .n2 =>
    match m with
    | .b => .cbRes2B
    | .c => .cbRes2C
    | .d => .cbRes2D
    | .e => .cbRes2E
    | .h => .cbRes2H
    | .l => .cbRes2L
    | .atHl => .cbRes2AtHl
    | .a => .cbRes2A
  | .n3 =>
    match m with
    | .b => .cbRes3B
    | .c => .cbRes3C
    | .d => .cbRes3D
    | .e => .cbRes3E
    | .h => .cbRes3H
    | .l => .cbRes3L
    | .atHl => .cbRes3AtHl
    | .a => .cbRes3A
  | .n4 =>
    match m with
    | .b => .cbRes4B
    | .c => .cbRes4C
    | .d => .cbRes4D
    | .e => .cbRes4E
    | .h => .cbRes4H
    | .l => .cbRes4L
    | .atHl => .cbRes4AtHl
    | .a => .cbRes4A
  | .n5 =>
    match m with
    | .b => .cbRes5B
    | .c => .cbRes5C
    | .d => .cbRes5D
    | .e => .cbRes5E
    | .h => .cbRes5H
    | .l => .cbRes5L
    | .atHl => .cbRes5AtHl
    | .a => .cbRes5A
  | .n6 =>
    match m with
    | .b => .cbRes6B
    | .c => .cbRes6C
    | .d => .cbRes6D
    | .e => .cbRes6E
    | .h => .cbRes6H
    | .l => .cbRes6L
    | .atHl => .cbRes6AtHl
    | .a => .cbRes6A
  | .n7 =>
    match m with
    | .b => .cbRes7B
    | .c => .cbRes7C
    | .d => .cbRes7D
    | .e => .cbRes7E
    | .h => .cbRes7H
    | .l => .cbRes7L
    | .atHl => .cbRes7AtHl
    | .a => .cbRes7A

/-- R306, CB `11 y z`: SET y of an `r8` operand. -/
def Instr.set (k : Octal) (m : R8) : Instr :=
  match k with
  | .n0 =>
    match m with
    | .b => .cbSet0B
    | .c => .cbSet0C
    | .d => .cbSet0D
    | .e => .cbSet0E
    | .h => .cbSet0H
    | .l => .cbSet0L
    | .atHl => .cbSet0AtHl
    | .a => .cbSet0A
  | .n1 =>
    match m with
    | .b => .cbSet1B
    | .c => .cbSet1C
    | .d => .cbSet1D
    | .e => .cbSet1E
    | .h => .cbSet1H
    | .l => .cbSet1L
    | .atHl => .cbSet1AtHl
    | .a => .cbSet1A
  | .n2 =>
    match m with
    | .b => .cbSet2B
    | .c => .cbSet2C
    | .d => .cbSet2D
    | .e => .cbSet2E
    | .h => .cbSet2H
    | .l => .cbSet2L
    | .atHl => .cbSet2AtHl
    | .a => .cbSet2A
  | .n3 =>
    match m with
    | .b => .cbSet3B
    | .c => .cbSet3C
    | .d => .cbSet3D
    | .e => .cbSet3E
    | .h => .cbSet3H
    | .l => .cbSet3L
    | .atHl => .cbSet3AtHl
    | .a => .cbSet3A
  | .n4 =>
    match m with
    | .b => .cbSet4B
    | .c => .cbSet4C
    | .d => .cbSet4D
    | .e => .cbSet4E
    | .h => .cbSet4H
    | .l => .cbSet4L
    | .atHl => .cbSet4AtHl
    | .a => .cbSet4A
  | .n5 =>
    match m with
    | .b => .cbSet5B
    | .c => .cbSet5C
    | .d => .cbSet5D
    | .e => .cbSet5E
    | .h => .cbSet5H
    | .l => .cbSet5L
    | .atHl => .cbSet5AtHl
    | .a => .cbSet5A
  | .n6 =>
    match m with
    | .b => .cbSet6B
    | .c => .cbSet6C
    | .d => .cbSet6D
    | .e => .cbSet6E
    | .h => .cbSet6H
    | .l => .cbSet6L
    | .atHl => .cbSet6AtHl
    | .a => .cbSet6A
  | .n7 =>
    match m with
    | .b => .cbSet7B
    | .c => .cbSet7C
    | .d => .cbSet7D
    | .e => .cbSet7E
    | .h => .cbSet7H
    | .l => .cbSet7L
    | .atHl => .cbSet7AtHl
    | .a => .cbSet7A

/-! The decoder -/

/-- R306: the instruction of the byte after 0xCB. All 256 values are defined. -/
def decodeCb (op2 : Byte) : Instr :=
  match fieldX op2 with
  | 0 => .shift (ShiftOp.ofIndex (fieldY op2)) (R8.ofIndex (fieldZ op2))
  | 1 => .bit (Octal.ofIndex (fieldY op2)) (R8.ofIndex (fieldZ op2))
  | 2 => .res (Octal.ofIndex (fieldY op2)) (R8.ofIndex (fieldZ op2))
  | _ => .set (Octal.ofIndex (fieldY op2)) (R8.ofIndex (fieldZ op2))

/-- R902: STOP with its ignored byte where it has one. -/
def decodeStop (len : StopLength) (b1 : Byte) : Instr :=
  match len with
  | .one => .stop 0x00#8
  | .two => .stop b1

/-- R304: block 0, opcodes 0x00 to 0x3F. -/
def decodeBlock0 (len : StopLength) (op b1 b2 : Byte) : Instr :=
  match fieldZ op with
  | 0 =>
    match fieldY op with
    | 0 => .nop
    | 1 => .ldAtN16Sp (concat b2 b1)
    | 2 => decodeStop len b1
    | 3 => .jrE8 b1
    | _ => .jrCond (Cond.ofIndex (fieldC op)) b1
  | 1 =>
    match fieldQ op with
    | 0 => .loadRp (Rp.ofIndex (fieldP op)) (concat b2 b1)
    | _ => .addHl (Rp.ofIndex (fieldP op))
  | 2 =>
    match fieldQ op with
    | 0 => .storeInd (Ind.ofIndex (fieldP op))
    | _ => .loadInd (Ind.ofIndex (fieldP op))
  | 3 =>
    match fieldQ op with
    | 0 => .incRp (Rp.ofIndex (fieldP op))
    | _ => .decRp (Rp.ofIndex (fieldP op))
  | 4 => .inc (R8.ofIndex (fieldY op))
  | 5 => .dec (R8.ofIndex (fieldY op))
  | 6 => .loadImm (R8.ofIndex (fieldY op)) b1
  | _ =>
    match fieldY op with
    | 0 => .rlca
    | 1 => .rrca
    | 2 => .rla
    | 3 => .rra
    | 4 => .daa
    | 5 => .cpl
    | 6 => .scf
    | _ => .ccf

/-- R304, R320: block 3, opcodes 0xC0 to 0xFF, the CB prefix and the eleven illegal opcodes among them. -/
def decodeBlock3 (op b1 b2 : Byte) : Instr :=
  match fieldZ op with
  | 0 =>
    match fieldY op with
    | 4 => .ldhAtN8A b1
    | 5 => .addSpE8 b1
    | 6 => .ldhAAtN8 b1
    | 7 => .ldHlSpE8 b1
    | _ => .retCond (Cond.ofIndex (fieldC op))
  | 1 =>
    match fieldQ op, fieldP op with
    | 0, p => .pop (Rp2.ofIndex p)
    | _, 0 => .ret
    | _, 1 => .reti
    | _, 2 => .jpHl
    | _, _ => .ldSpHl
  | 2 =>
    match fieldY op with
    | 4 => .ldAtCA
    | 5 => .ldAtN16A (concat b2 b1)
    | 6 => .ldAAtC
    | 7 => .ldAAtN16 (concat b2 b1)
    | _ => .jpCond (Cond.ofIndex (fieldC op)) (concat b2 b1)
  | 3 =>
    match fieldY op with
    | 0 => .jpN16 (concat b2 b1)
    | 1 => decodeCb b1
    | 2 => .illegalD3
    | 3 => .illegalDB
    | 4 => .illegalE3
    | 5 => .illegalEB
    | 6 => .di
    | _ => .ei
  | 4 =>
    match fieldY op with
    | 4 => .illegalE4
    | 5 => .illegalEC
    | 6 => .illegalF4
    | 7 => .illegalFC
    | _ => .callCond (Cond.ofIndex (fieldC op)) (concat b2 b1)
  | 5 =>
    match fieldQ op, fieldP op with
    | 0, p => .push (Rp2.ofIndex p)
    | _, 0 => .callN16 (concat b2 b1)
    | _, 1 => .illegalDD
    | _, 2 => .illegalED
    | _, _ => .illegalFD
  | 6 => .aluImm (AluOp.ofIndex (fieldY op)) b1
  | _ => .rst (Octal.ofIndex (fieldY op))

/-- R308, R321: the instruction of an opcode byte and the two bytes after it, of which it takes as many as it has
(R309). It is total: every base value and every CB value is an instruction. -/
def decodeOpcode (len : StopLength) (op b1 b2 : Byte) : Instr :=
  match fieldX op with
  | 0 => decodeBlock0 len op b1 b2
  | 1 => .load (R8.ofIndex (fieldY op)) (R8.ofIndex (fieldZ op))
  | 2 => .alu (AluOp.ofIndex (fieldY op)) (R8.ofIndex (fieldZ op))
  | _ => decodeBlock3 op b1 b2

/-- R301: the opcodes of the format `op_n16`, three bytes long. -/
def threeByteOpcodes : List Byte :=
  [
    0x01#8, 0x08#8, 0x11#8, 0x21#8, 0x31#8, 0xC2#8, 0xC3#8, 0xC4#8, 0xCA#8, 0xCC#8, 0xCD#8, 0xD2#8, 0xD4#8,
    0xDA#8, 0xDC#8, 0xEA#8, 0xFA#8 ]

/-- R301: the opcodes of the formats `op_n8`, `op_e8` and `cb`, two bytes long. -/
def twoByteOpcodes : List Byte :=
  [
    0x06#8, 0x0E#8, 0x16#8, 0x18#8, 0x1E#8, 0x20#8, 0x26#8, 0x28#8, 0x2E#8, 0x30#8, 0x36#8, 0x38#8, 0x3E#8,
    0xC6#8, 0xCE#8, 0xD6#8, 0xDE#8, 0xE0#8, 0xE6#8, 0xE8#8, 0xEE#8, 0xF0#8, 0xF6#8, 0xF8#8, 0xFE#8, 0xCB#8 ]

/-- R9: the number `STOP_LENGTH` stands for. -/
def StopLength.toNat : StopLength → Nat
  | .one => 1
  | .two => 2

/-- R309: how many bytes an instruction has, known from its first. -/
def instrLength (len : StopLength) (op : Byte) : Nat :=
  if op = 0x10#8 then len.toNat
  else if op ∈ threeByteOpcodes then 3
  else if op ∈ twoByteOpcodes then 2
  else 1

/-- Why a list of bytes is no instruction. -/
inductive DecodeError
  /-- There is no byte at all. -/
  | noOpcode
  /-- The list ends before the instruction its first byte begins. -/
  | truncated
  deriving DecidableEq, Repr

/-- R308: the instruction a list of bytes begins with, and the bytes after it; total, and rejecting by name a list that
ends too soon. No opcode value is rejected (R321). -/
def decode (len : StopLength) : List Byte → Except DecodeError (Instr × List Byte)
  | [] => .error .noOpcode
  | op :: rest =>
    let n := instrLength len op - 1
    if rest.length < n then .error .truncated
    else .ok (decodeOpcode len op (rest.getD 0 0x00#8) (rest.getD 1 0x00#8), rest.drop n)

/-! The encoder, from the rows of `opcode_table.json` -/

/-- R301, R303: an opcode byte followed by a 16-bit immediate, low byte first. -/
def encodeN16 (op : Byte) (nn : Word) : List Byte := [op, lowByte nn, highByte nn]

/-- R301, R902: STOP and its ignored byte where it has one. -/
def encodeStop (len : StopLength) (ignored : Byte) : List Byte :=
  match len with
  | .one => [0x10#8]
  | .two => [0x10#8, ignored]

/-- The bytes of an instruction, the first at the lowest address (R301): its row of the opcode table. -/
def encode (len : StopLength) (i : Instr) : List Byte :=
  match i with
  | .ldBcN16 nn => encodeN16 0x01#8 nn
  | .ldBN8 n => [0x06#8, n]
  | .ldAtN16Sp nn => encodeN16 0x08#8 nn
  | .ldCN8 n => [0x0E#8, n]
  | .stop ignored => encodeStop len ignored
  | .ldDeN16 nn => encodeN16 0x11#8 nn
  | .ldDN8 n => [0x16#8, n]
  | .jrE8 e => [0x18#8, e]
  | .ldEN8 n => [0x1E#8, n]
  | .jrNzE8 e => [0x20#8, e]
  | .ldHlN16 nn => encodeN16 0x21#8 nn
  | .ldHN8 n => [0x26#8, n]
  | .jrZE8 e => [0x28#8, e]
  | .ldLN8 n => [0x2E#8, n]
  | .jrNcE8 e => [0x30#8, e]
  | .ldSpN16 nn => encodeN16 0x31#8 nn
  | .ldAtHlN8 n => [0x36#8, n]
  | .jrCE8 e => [0x38#8, e]
  | .ldAN8 n => [0x3E#8, n]
  | .jpNzN16 nn => encodeN16 0xC2#8 nn
  | .jpN16 nn => encodeN16 0xC3#8 nn
  | .callNzN16 nn => encodeN16 0xC4#8 nn
  | .addAN8 n => [0xC6#8, n]
  | .jpZN16 nn => encodeN16 0xCA#8 nn
  | .callZN16 nn => encodeN16 0xCC#8 nn
  | .callN16 nn => encodeN16 0xCD#8 nn
  | .adcAN8 n => [0xCE#8, n]
  | .jpNcN16 nn => encodeN16 0xD2#8 nn
  | .callNcN16 nn => encodeN16 0xD4#8 nn
  | .subN8 n => [0xD6#8, n]
  | .jpCN16 nn => encodeN16 0xDA#8 nn
  | .callCN16 nn => encodeN16 0xDC#8 nn
  | .sbcAN8 n => [0xDE#8, n]
  | .ldhAtN8A n => [0xE0#8, n]
  | .andN8 n => [0xE6#8, n]
  | .addSpE8 e => [0xE8#8, e]
  | .ldAtN16A nn => encodeN16 0xEA#8 nn
  | .xorN8 n => [0xEE#8, n]
  | .ldhAAtN8 n => [0xF0#8, n]
  | .orN8 n => [0xF6#8, n]
  | .ldHlSpE8 e => [0xF8#8, e]
  | .ldAAtN16 nn => encodeN16 0xFA#8 nn
  | .cpN8 n => [0xFE#8, n]
  | .nop => [0x00#8]
  | .ldAtBcA => [0x02#8]
  | .incBc => [0x03#8]
  | .incB => [0x04#8]
  | .decB => [0x05#8]
  | .rlca => [0x07#8]
  | .addHlBc => [0x09#8]
  | .ldAAtBc => [0x0A#8]
  | .decBc => [0x0B#8]
  | .incC => [0x0C#8]
  | .decC => [0x0D#8]
  | .rrca => [0x0F#8]
  | .ldAtDeA => [0x12#8]
  | .incDe => [0x13#8]
  | .incD => [0x14#8]
  | .decD => [0x15#8]
  | .rla => [0x17#8]
  | .addHlDe => [0x19#8]
  | .ldAAtDe => [0x1A#8]
  | .decDe => [0x1B#8]
  | .incE => [0x1C#8]
  | .decE => [0x1D#8]
  | .rra => [0x1F#8]
  | .ldAtHlIncA => [0x22#8]
  | .incHl => [0x23#8]
  | .incH => [0x24#8]
  | .decH => [0x25#8]
  | .daa => [0x27#8]
  | .addHlHl => [0x29#8]
  | .ldAAtHlInc => [0x2A#8]
  | .decHl => [0x2B#8]
  | .incL => [0x2C#8]
  | .decL => [0x2D#8]
  | .cpl => [0x2F#8]
  | .ldAtHlDecA => [0x32#8]
  | .incSp => [0x33#8]
  | .incAtHl => [0x34#8]
  | .decAtHl => [0x35#8]
  | .scf => [0x37#8]
  | .addHlSp => [0x39#8]
  | .ldAAtHlDec => [0x3A#8]
  | .decSp => [0x3B#8]
  | .incA => [0x3C#8]
  | .decA => [0x3D#8]
  | .ccf => [0x3F#8]
  | .ldBB => [0x40#8]
  | .ldBC => [0x41#8]
  | .ldBD => [0x42#8]
  | .ldBE => [0x43#8]
  | .ldBH => [0x44#8]
  | .ldBL => [0x45#8]
  | .ldBAtHl => [0x46#8]
  | .ldBA => [0x47#8]
  | .ldCB => [0x48#8]
  | .ldCC => [0x49#8]
  | .ldCD => [0x4A#8]
  | .ldCE => [0x4B#8]
  | .ldCH => [0x4C#8]
  | .ldCL => [0x4D#8]
  | .ldCAtHl => [0x4E#8]
  | .ldCA => [0x4F#8]
  | .ldDB => [0x50#8]
  | .ldDC => [0x51#8]
  | .ldDD => [0x52#8]
  | .ldDE => [0x53#8]
  | .ldDH => [0x54#8]
  | .ldDL => [0x55#8]
  | .ldDAtHl => [0x56#8]
  | .ldDA => [0x57#8]
  | .ldEB => [0x58#8]
  | .ldEC => [0x59#8]
  | .ldED => [0x5A#8]
  | .ldEE => [0x5B#8]
  | .ldEH => [0x5C#8]
  | .ldEL => [0x5D#8]
  | .ldEAtHl => [0x5E#8]
  | .ldEA => [0x5F#8]
  | .ldHB => [0x60#8]
  | .ldHC => [0x61#8]
  | .ldHD => [0x62#8]
  | .ldHE => [0x63#8]
  | .ldHH => [0x64#8]
  | .ldHL => [0x65#8]
  | .ldHAtHl => [0x66#8]
  | .ldHA => [0x67#8]
  | .ldLB => [0x68#8]
  | .ldLC => [0x69#8]
  | .ldLD => [0x6A#8]
  | .ldLE => [0x6B#8]
  | .ldLH => [0x6C#8]
  | .ldLL => [0x6D#8]
  | .ldLAtHl => [0x6E#8]
  | .ldLA => [0x6F#8]
  | .ldAtHlB => [0x70#8]
  | .ldAtHlC => [0x71#8]
  | .ldAtHlD => [0x72#8]
  | .ldAtHlE => [0x73#8]
  | .ldAtHlH => [0x74#8]
  | .ldAtHlL => [0x75#8]
  | .halt => [0x76#8]
  | .ldAtHlA => [0x77#8]
  | .ldAB => [0x78#8]
  | .ldAC => [0x79#8]
  | .ldAD => [0x7A#8]
  | .ldAE => [0x7B#8]
  | .ldAH => [0x7C#8]
  | .ldAL => [0x7D#8]
  | .ldAAtHl => [0x7E#8]
  | .ldAA => [0x7F#8]
  | .addAB => [0x80#8]
  | .addAC => [0x81#8]
  | .addAD => [0x82#8]
  | .addAE => [0x83#8]
  | .addAH => [0x84#8]
  | .addAL => [0x85#8]
  | .addAAtHl => [0x86#8]
  | .addAA => [0x87#8]
  | .adcAB => [0x88#8]
  | .adcAC => [0x89#8]
  | .adcAD => [0x8A#8]
  | .adcAE => [0x8B#8]
  | .adcAH => [0x8C#8]
  | .adcAL => [0x8D#8]
  | .adcAAtHl => [0x8E#8]
  | .adcAA => [0x8F#8]
  | .subB => [0x90#8]
  | .subC => [0x91#8]
  | .subD => [0x92#8]
  | .subE => [0x93#8]
  | .subH => [0x94#8]
  | .subL => [0x95#8]
  | .subAtHl => [0x96#8]
  | .subA => [0x97#8]
  | .sbcAB => [0x98#8]
  | .sbcAC => [0x99#8]
  | .sbcAD => [0x9A#8]
  | .sbcAE => [0x9B#8]
  | .sbcAH => [0x9C#8]
  | .sbcAL => [0x9D#8]
  | .sbcAAtHl => [0x9E#8]
  | .sbcAA => [0x9F#8]
  | .andB => [0xA0#8]
  | .andC => [0xA1#8]
  | .andD => [0xA2#8]
  | .andE => [0xA3#8]
  | .andH => [0xA4#8]
  | .andL => [0xA5#8]
  | .andAtHl => [0xA6#8]
  | .andA => [0xA7#8]
  | .xorB => [0xA8#8]
  | .xorC => [0xA9#8]
  | .xorD => [0xAA#8]
  | .xorE => [0xAB#8]
  | .xorH => [0xAC#8]
  | .xorL => [0xAD#8]
  | .xorAtHl => [0xAE#8]
  | .xorA => [0xAF#8]
  | .orB => [0xB0#8]
  | .orC => [0xB1#8]
  | .orD => [0xB2#8]
  | .orE => [0xB3#8]
  | .orH => [0xB4#8]
  | .orL => [0xB5#8]
  | .orAtHl => [0xB6#8]
  | .orA => [0xB7#8]
  | .cpB => [0xB8#8]
  | .cpC => [0xB9#8]
  | .cpD => [0xBA#8]
  | .cpE => [0xBB#8]
  | .cpH => [0xBC#8]
  | .cpL => [0xBD#8]
  | .cpAtHl => [0xBE#8]
  | .cpA => [0xBF#8]
  | .retNz => [0xC0#8]
  | .popBc => [0xC1#8]
  | .pushBc => [0xC5#8]
  | .rst00 => [0xC7#8]
  | .retZ => [0xC8#8]
  | .ret => [0xC9#8]
  | .rst08 => [0xCF#8]
  | .retNc => [0xD0#8]
  | .popDe => [0xD1#8]
  | .illegalD3 => [0xD3#8]
  | .pushDe => [0xD5#8]
  | .rst10 => [0xD7#8]
  | .retC => [0xD8#8]
  | .reti => [0xD9#8]
  | .illegalDB => [0xDB#8]
  | .illegalDD => [0xDD#8]
  | .rst18 => [0xDF#8]
  | .popHl => [0xE1#8]
  | .ldAtCA => [0xE2#8]
  | .illegalE3 => [0xE3#8]
  | .illegalE4 => [0xE4#8]
  | .pushHl => [0xE5#8]
  | .rst20 => [0xE7#8]
  | .jpHl => [0xE9#8]
  | .illegalEB => [0xEB#8]
  | .illegalEC => [0xEC#8]
  | .illegalED => [0xED#8]
  | .rst28 => [0xEF#8]
  | .popAf => [0xF1#8]
  | .ldAAtC => [0xF2#8]
  | .di => [0xF3#8]
  | .illegalF4 => [0xF4#8]
  | .pushAf => [0xF5#8]
  | .rst30 => [0xF7#8]
  | .ldSpHl => [0xF9#8]
  | .ei => [0xFB#8]
  | .illegalFC => [0xFC#8]
  | .illegalFD => [0xFD#8]
  | .rst38 => [0xFF#8]
  | .cbRlcB => [0xCB#8, 0x00#8]
  | .cbRlcC => [0xCB#8, 0x01#8]
  | .cbRlcD => [0xCB#8, 0x02#8]
  | .cbRlcE => [0xCB#8, 0x03#8]
  | .cbRlcH => [0xCB#8, 0x04#8]
  | .cbRlcL => [0xCB#8, 0x05#8]
  | .cbRlcAtHl => [0xCB#8, 0x06#8]
  | .cbRlcA => [0xCB#8, 0x07#8]
  | .cbRrcB => [0xCB#8, 0x08#8]
  | .cbRrcC => [0xCB#8, 0x09#8]
  | .cbRrcD => [0xCB#8, 0x0A#8]
  | .cbRrcE => [0xCB#8, 0x0B#8]
  | .cbRrcH => [0xCB#8, 0x0C#8]
  | .cbRrcL => [0xCB#8, 0x0D#8]
  | .cbRrcAtHl => [0xCB#8, 0x0E#8]
  | .cbRrcA => [0xCB#8, 0x0F#8]
  | .cbRlB => [0xCB#8, 0x10#8]
  | .cbRlC => [0xCB#8, 0x11#8]
  | .cbRlD => [0xCB#8, 0x12#8]
  | .cbRlE => [0xCB#8, 0x13#8]
  | .cbRlH => [0xCB#8, 0x14#8]
  | .cbRlL => [0xCB#8, 0x15#8]
  | .cbRlAtHl => [0xCB#8, 0x16#8]
  | .cbRlA => [0xCB#8, 0x17#8]
  | .cbRrB => [0xCB#8, 0x18#8]
  | .cbRrC => [0xCB#8, 0x19#8]
  | .cbRrD => [0xCB#8, 0x1A#8]
  | .cbRrE => [0xCB#8, 0x1B#8]
  | .cbRrH => [0xCB#8, 0x1C#8]
  | .cbRrL => [0xCB#8, 0x1D#8]
  | .cbRrAtHl => [0xCB#8, 0x1E#8]
  | .cbRrA => [0xCB#8, 0x1F#8]
  | .cbSlaB => [0xCB#8, 0x20#8]
  | .cbSlaC => [0xCB#8, 0x21#8]
  | .cbSlaD => [0xCB#8, 0x22#8]
  | .cbSlaE => [0xCB#8, 0x23#8]
  | .cbSlaH => [0xCB#8, 0x24#8]
  | .cbSlaL => [0xCB#8, 0x25#8]
  | .cbSlaAtHl => [0xCB#8, 0x26#8]
  | .cbSlaA => [0xCB#8, 0x27#8]
  | .cbSraB => [0xCB#8, 0x28#8]
  | .cbSraC => [0xCB#8, 0x29#8]
  | .cbSraD => [0xCB#8, 0x2A#8]
  | .cbSraE => [0xCB#8, 0x2B#8]
  | .cbSraH => [0xCB#8, 0x2C#8]
  | .cbSraL => [0xCB#8, 0x2D#8]
  | .cbSraAtHl => [0xCB#8, 0x2E#8]
  | .cbSraA => [0xCB#8, 0x2F#8]
  | .cbSwapB => [0xCB#8, 0x30#8]
  | .cbSwapC => [0xCB#8, 0x31#8]
  | .cbSwapD => [0xCB#8, 0x32#8]
  | .cbSwapE => [0xCB#8, 0x33#8]
  | .cbSwapH => [0xCB#8, 0x34#8]
  | .cbSwapL => [0xCB#8, 0x35#8]
  | .cbSwapAtHl => [0xCB#8, 0x36#8]
  | .cbSwapA => [0xCB#8, 0x37#8]
  | .cbSrlB => [0xCB#8, 0x38#8]
  | .cbSrlC => [0xCB#8, 0x39#8]
  | .cbSrlD => [0xCB#8, 0x3A#8]
  | .cbSrlE => [0xCB#8, 0x3B#8]
  | .cbSrlH => [0xCB#8, 0x3C#8]
  | .cbSrlL => [0xCB#8, 0x3D#8]
  | .cbSrlAtHl => [0xCB#8, 0x3E#8]
  | .cbSrlA => [0xCB#8, 0x3F#8]
  | .cbBit0B => [0xCB#8, 0x40#8]
  | .cbBit0C => [0xCB#8, 0x41#8]
  | .cbBit0D => [0xCB#8, 0x42#8]
  | .cbBit0E => [0xCB#8, 0x43#8]
  | .cbBit0H => [0xCB#8, 0x44#8]
  | .cbBit0L => [0xCB#8, 0x45#8]
  | .cbBit0AtHl => [0xCB#8, 0x46#8]
  | .cbBit0A => [0xCB#8, 0x47#8]
  | .cbBit1B => [0xCB#8, 0x48#8]
  | .cbBit1C => [0xCB#8, 0x49#8]
  | .cbBit1D => [0xCB#8, 0x4A#8]
  | .cbBit1E => [0xCB#8, 0x4B#8]
  | .cbBit1H => [0xCB#8, 0x4C#8]
  | .cbBit1L => [0xCB#8, 0x4D#8]
  | .cbBit1AtHl => [0xCB#8, 0x4E#8]
  | .cbBit1A => [0xCB#8, 0x4F#8]
  | .cbBit2B => [0xCB#8, 0x50#8]
  | .cbBit2C => [0xCB#8, 0x51#8]
  | .cbBit2D => [0xCB#8, 0x52#8]
  | .cbBit2E => [0xCB#8, 0x53#8]
  | .cbBit2H => [0xCB#8, 0x54#8]
  | .cbBit2L => [0xCB#8, 0x55#8]
  | .cbBit2AtHl => [0xCB#8, 0x56#8]
  | .cbBit2A => [0xCB#8, 0x57#8]
  | .cbBit3B => [0xCB#8, 0x58#8]
  | .cbBit3C => [0xCB#8, 0x59#8]
  | .cbBit3D => [0xCB#8, 0x5A#8]
  | .cbBit3E => [0xCB#8, 0x5B#8]
  | .cbBit3H => [0xCB#8, 0x5C#8]
  | .cbBit3L => [0xCB#8, 0x5D#8]
  | .cbBit3AtHl => [0xCB#8, 0x5E#8]
  | .cbBit3A => [0xCB#8, 0x5F#8]
  | .cbBit4B => [0xCB#8, 0x60#8]
  | .cbBit4C => [0xCB#8, 0x61#8]
  | .cbBit4D => [0xCB#8, 0x62#8]
  | .cbBit4E => [0xCB#8, 0x63#8]
  | .cbBit4H => [0xCB#8, 0x64#8]
  | .cbBit4L => [0xCB#8, 0x65#8]
  | .cbBit4AtHl => [0xCB#8, 0x66#8]
  | .cbBit4A => [0xCB#8, 0x67#8]
  | .cbBit5B => [0xCB#8, 0x68#8]
  | .cbBit5C => [0xCB#8, 0x69#8]
  | .cbBit5D => [0xCB#8, 0x6A#8]
  | .cbBit5E => [0xCB#8, 0x6B#8]
  | .cbBit5H => [0xCB#8, 0x6C#8]
  | .cbBit5L => [0xCB#8, 0x6D#8]
  | .cbBit5AtHl => [0xCB#8, 0x6E#8]
  | .cbBit5A => [0xCB#8, 0x6F#8]
  | .cbBit6B => [0xCB#8, 0x70#8]
  | .cbBit6C => [0xCB#8, 0x71#8]
  | .cbBit6D => [0xCB#8, 0x72#8]
  | .cbBit6E => [0xCB#8, 0x73#8]
  | .cbBit6H => [0xCB#8, 0x74#8]
  | .cbBit6L => [0xCB#8, 0x75#8]
  | .cbBit6AtHl => [0xCB#8, 0x76#8]
  | .cbBit6A => [0xCB#8, 0x77#8]
  | .cbBit7B => [0xCB#8, 0x78#8]
  | .cbBit7C => [0xCB#8, 0x79#8]
  | .cbBit7D => [0xCB#8, 0x7A#8]
  | .cbBit7E => [0xCB#8, 0x7B#8]
  | .cbBit7H => [0xCB#8, 0x7C#8]
  | .cbBit7L => [0xCB#8, 0x7D#8]
  | .cbBit7AtHl => [0xCB#8, 0x7E#8]
  | .cbBit7A => [0xCB#8, 0x7F#8]
  | .cbRes0B => [0xCB#8, 0x80#8]
  | .cbRes0C => [0xCB#8, 0x81#8]
  | .cbRes0D => [0xCB#8, 0x82#8]
  | .cbRes0E => [0xCB#8, 0x83#8]
  | .cbRes0H => [0xCB#8, 0x84#8]
  | .cbRes0L => [0xCB#8, 0x85#8]
  | .cbRes0AtHl => [0xCB#8, 0x86#8]
  | .cbRes0A => [0xCB#8, 0x87#8]
  | .cbRes1B => [0xCB#8, 0x88#8]
  | .cbRes1C => [0xCB#8, 0x89#8]
  | .cbRes1D => [0xCB#8, 0x8A#8]
  | .cbRes1E => [0xCB#8, 0x8B#8]
  | .cbRes1H => [0xCB#8, 0x8C#8]
  | .cbRes1L => [0xCB#8, 0x8D#8]
  | .cbRes1AtHl => [0xCB#8, 0x8E#8]
  | .cbRes1A => [0xCB#8, 0x8F#8]
  | .cbRes2B => [0xCB#8, 0x90#8]
  | .cbRes2C => [0xCB#8, 0x91#8]
  | .cbRes2D => [0xCB#8, 0x92#8]
  | .cbRes2E => [0xCB#8, 0x93#8]
  | .cbRes2H => [0xCB#8, 0x94#8]
  | .cbRes2L => [0xCB#8, 0x95#8]
  | .cbRes2AtHl => [0xCB#8, 0x96#8]
  | .cbRes2A => [0xCB#8, 0x97#8]
  | .cbRes3B => [0xCB#8, 0x98#8]
  | .cbRes3C => [0xCB#8, 0x99#8]
  | .cbRes3D => [0xCB#8, 0x9A#8]
  | .cbRes3E => [0xCB#8, 0x9B#8]
  | .cbRes3H => [0xCB#8, 0x9C#8]
  | .cbRes3L => [0xCB#8, 0x9D#8]
  | .cbRes3AtHl => [0xCB#8, 0x9E#8]
  | .cbRes3A => [0xCB#8, 0x9F#8]
  | .cbRes4B => [0xCB#8, 0xA0#8]
  | .cbRes4C => [0xCB#8, 0xA1#8]
  | .cbRes4D => [0xCB#8, 0xA2#8]
  | .cbRes4E => [0xCB#8, 0xA3#8]
  | .cbRes4H => [0xCB#8, 0xA4#8]
  | .cbRes4L => [0xCB#8, 0xA5#8]
  | .cbRes4AtHl => [0xCB#8, 0xA6#8]
  | .cbRes4A => [0xCB#8, 0xA7#8]
  | .cbRes5B => [0xCB#8, 0xA8#8]
  | .cbRes5C => [0xCB#8, 0xA9#8]
  | .cbRes5D => [0xCB#8, 0xAA#8]
  | .cbRes5E => [0xCB#8, 0xAB#8]
  | .cbRes5H => [0xCB#8, 0xAC#8]
  | .cbRes5L => [0xCB#8, 0xAD#8]
  | .cbRes5AtHl => [0xCB#8, 0xAE#8]
  | .cbRes5A => [0xCB#8, 0xAF#8]
  | .cbRes6B => [0xCB#8, 0xB0#8]
  | .cbRes6C => [0xCB#8, 0xB1#8]
  | .cbRes6D => [0xCB#8, 0xB2#8]
  | .cbRes6E => [0xCB#8, 0xB3#8]
  | .cbRes6H => [0xCB#8, 0xB4#8]
  | .cbRes6L => [0xCB#8, 0xB5#8]
  | .cbRes6AtHl => [0xCB#8, 0xB6#8]
  | .cbRes6A => [0xCB#8, 0xB7#8]
  | .cbRes7B => [0xCB#8, 0xB8#8]
  | .cbRes7C => [0xCB#8, 0xB9#8]
  | .cbRes7D => [0xCB#8, 0xBA#8]
  | .cbRes7E => [0xCB#8, 0xBB#8]
  | .cbRes7H => [0xCB#8, 0xBC#8]
  | .cbRes7L => [0xCB#8, 0xBD#8]
  | .cbRes7AtHl => [0xCB#8, 0xBE#8]
  | .cbRes7A => [0xCB#8, 0xBF#8]
  | .cbSet0B => [0xCB#8, 0xC0#8]
  | .cbSet0C => [0xCB#8, 0xC1#8]
  | .cbSet0D => [0xCB#8, 0xC2#8]
  | .cbSet0E => [0xCB#8, 0xC3#8]
  | .cbSet0H => [0xCB#8, 0xC4#8]
  | .cbSet0L => [0xCB#8, 0xC5#8]
  | .cbSet0AtHl => [0xCB#8, 0xC6#8]
  | .cbSet0A => [0xCB#8, 0xC7#8]
  | .cbSet1B => [0xCB#8, 0xC8#8]
  | .cbSet1C => [0xCB#8, 0xC9#8]
  | .cbSet1D => [0xCB#8, 0xCA#8]
  | .cbSet1E => [0xCB#8, 0xCB#8]
  | .cbSet1H => [0xCB#8, 0xCC#8]
  | .cbSet1L => [0xCB#8, 0xCD#8]
  | .cbSet1AtHl => [0xCB#8, 0xCE#8]
  | .cbSet1A => [0xCB#8, 0xCF#8]
  | .cbSet2B => [0xCB#8, 0xD0#8]
  | .cbSet2C => [0xCB#8, 0xD1#8]
  | .cbSet2D => [0xCB#8, 0xD2#8]
  | .cbSet2E => [0xCB#8, 0xD3#8]
  | .cbSet2H => [0xCB#8, 0xD4#8]
  | .cbSet2L => [0xCB#8, 0xD5#8]
  | .cbSet2AtHl => [0xCB#8, 0xD6#8]
  | .cbSet2A => [0xCB#8, 0xD7#8]
  | .cbSet3B => [0xCB#8, 0xD8#8]
  | .cbSet3C => [0xCB#8, 0xD9#8]
  | .cbSet3D => [0xCB#8, 0xDA#8]
  | .cbSet3E => [0xCB#8, 0xDB#8]
  | .cbSet3H => [0xCB#8, 0xDC#8]
  | .cbSet3L => [0xCB#8, 0xDD#8]
  | .cbSet3AtHl => [0xCB#8, 0xDE#8]
  | .cbSet3A => [0xCB#8, 0xDF#8]
  | .cbSet4B => [0xCB#8, 0xE0#8]
  | .cbSet4C => [0xCB#8, 0xE1#8]
  | .cbSet4D => [0xCB#8, 0xE2#8]
  | .cbSet4E => [0xCB#8, 0xE3#8]
  | .cbSet4H => [0xCB#8, 0xE4#8]
  | .cbSet4L => [0xCB#8, 0xE5#8]
  | .cbSet4AtHl => [0xCB#8, 0xE6#8]
  | .cbSet4A => [0xCB#8, 0xE7#8]
  | .cbSet5B => [0xCB#8, 0xE8#8]
  | .cbSet5C => [0xCB#8, 0xE9#8]
  | .cbSet5D => [0xCB#8, 0xEA#8]
  | .cbSet5E => [0xCB#8, 0xEB#8]
  | .cbSet5H => [0xCB#8, 0xEC#8]
  | .cbSet5L => [0xCB#8, 0xED#8]
  | .cbSet5AtHl => [0xCB#8, 0xEE#8]
  | .cbSet5A => [0xCB#8, 0xEF#8]
  | .cbSet6B => [0xCB#8, 0xF0#8]
  | .cbSet6C => [0xCB#8, 0xF1#8]
  | .cbSet6D => [0xCB#8, 0xF2#8]
  | .cbSet6E => [0xCB#8, 0xF3#8]
  | .cbSet6H => [0xCB#8, 0xF4#8]
  | .cbSet6L => [0xCB#8, 0xF5#8]
  | .cbSet6AtHl => [0xCB#8, 0xF6#8]
  | .cbSet6A => [0xCB#8, 0xF7#8]
  | .cbSet7B => [0xCB#8, 0xF8#8]
  | .cbSet7C => [0xCB#8, 0xF9#8]
  | .cbSet7D => [0xCB#8, 0xFA#8]
  | .cbSet7E => [0xCB#8, 0xFB#8]
  | .cbSet7H => [0xCB#8, 0xFC#8]
  | .cbSet7L => [0xCB#8, 0xFD#8]
  | .cbSet7AtHl => [0xCB#8, 0xFE#8]
  | .cbSet7A => [0xCB#8, 0xFF#8]

/-! The opcode table's numbering of an instruction's bits -/

/-- The bytes, first byte first, of a word whose bits are numbered as `opcode_table.json` numbers them, padded with
zero bytes to the longest instruction. A one-byte row's number is its opcode. A CB row's number has 0xCB in bits 15
to 8 and the byte after it in bits 7 to 0 (log entry 6). Any other longer word has its first byte in bits 7 to 0. -/
def tableBytes (nbits w : Nat) : List Byte :=
  let v := w % 2 ^ nbits
  if nbits = 16 ∧ v / 256 = 0xCB then [0xCB#8, BitVec.ofNat 8 v, 0x00#8]
  else [BitVec.ofNat 8 v, BitVec.ofNat 8 (v / 256), BitVec.ofNat 8 (v / 65536)]

/-- The instruction the decoder reads from a word numbered as the opcode table numbers it. -/
def decodeTableWord (nbits w : Nat) : Option Instr :=
  match decode Config.stopLength (tableBytes nbits w) with
  | .ok r => some r.1
  | .error _ => none

end Sys2Proof
end

