-- ==== Sys2Proof/Machine/State.lean ====
section
/-! DEFINITION. Everything the spec gives the machine, as plain data: the register file and CPU state of
`10_state.md`, the bus of `20_memory.md` with its history, the pending acts of the outside world of
`60_exceptions.md`; the reasons a step stops; and reset. -/

namespace Sys2Proof.Machine

/-- F, "stored as four independent booleans" (R101). Its reserved bits 3 to 0 are no state: they always read 0. -/
structure Flags where
  z : Bool
  n : Bool
  h : Bool
  c : Bool
  deriving DecidableEq, Repr

/-- One call on the bus (R13, R201): a `read8` with the byte it returned, or a `write8` with the byte it carried. -/
inductive BusCall
  | read (addr : Word) (value : Byte)
  | write (addr : Word) (value : Byte)
  deriving DecidableEq, Repr

/-- The bus collaborator of R201, seen from the core (log entries 2 and 3).
`mem` holds the RAM bus of R211: `Host.Cell` pairs, addresses strictly rising, none equal to `Config.unlistedByte`.
`answers` holds the bytes the bus will return to the next `read8` calls whatever the RAM holds: a bus of R201 may
return any byte to any read, and every run on every bus is a run of this model from a state whose `answers` are the
bytes that bus returned. With no answer left a read returns the RAM byte.
`calls` holds every call made so far, newest first (R206, R208). -/
structure Bus where
  mem : List Host.Cell
  answers : List Byte
  calls : List BusCall
  deriving DecidableEq, Repr

/-- The moves R1204 allows the external interrupt dispatcher between ticks, and no others: writing IME, Halted,
Stopped, PC or SP, and reading or writing memory through the bus. (Its reads of IME, Halted, Stopped, PC and SP
change nothing: they stand in the choice of the moves, log entry 4.) -/
inductive DispatcherMove
  | setIme (v : Bool)
  | setHalted (v : Bool)
  | setStopped (v : Bool)
  | setPc (v : Word)
  | setSp (v : Word)
  | busRead (addr : Word)
  | busWrite (addr : Word) (value : Byte)
  deriving DecidableEq, Repr

/-- What happens next around the core: the host lets the core tick once (R300), the dispatcher makes a move (R1204), or
the host resets the core (R1300). The last two land between two ticks and never inside one (R1203). -/
inductive OutsideEvent
  | tick
  | dispatcher (m : DispatcherMove)
  | reset
  deriving DecidableEq, Repr

/-- The machine. `a` to `l`: the seven 8-bit registers (R100); `f`: the flags (R101); `sp` and `pc` (R103, R106);
`ime`, `halted`, `stopped`: the CPU state (R104); `bus`: the bus (R201); `events`: what the outside world does, oldest
first, and when it lets the core tick (R1204, log entry 4); once it is empty every step is a tick. The pairs BC, DE, HL and AF are views, not storage (R102). -/
structure State where
  a : Byte
  f : Flags
  b : Byte
  c : Byte
  d : Byte
  e : Byte
  h : Byte
  l : Byte
  sp : Word
  pc : Word
  ime : Bool
  halted : Bool
  stopped : Bool
  bus : Bus
  events : List OutsideEvent
  deriving DecidableEq, Repr

/-- Why a step ends in a fault: never. "No other synchronous exception exists" than IllegalOpcode (R1202), and that one
sets Stopped and goes on (R1201); no address is refused by the core (R201). So the type has no constructor. -/
inductive Fault
  deriving DecidableEq, Repr

/-- Why the model gives a step no meaning. -/
inductive Refusal
  /-- Raised by an arm of `exec` whose instruction has no meaning yet. No arm raises it. Safe. -/
  | notModelled (mnemonic : String)
  /-- Raised by `tick` in a state with Halted = 1 and Stopped = 1, which is outside the admitted states
  (R105, R300, 92 D8) and which only the dispatcher can make. Safe: the spec itself says that the model refuses. -/
  | haltedAndStopped
  deriving DecidableEq, Repr

/-- What an instruction, a tick and a step answer. -/
abbrev Result := Host.Outcome State Fault Refusal

/-- The bus before anything has used it: no RAM byte written, no answer pending, no call made (R131). -/
def Bus.empty : Bus := { mem := [], answers := [], calls := [] }

/-- R130: the reset values of the register file and the CPU state under a profile, over a given bus and given pending
outside events, neither of which reset touches (R131). The `dmgPostBoot` column is the spec's general knowledge (G6). -/
def State.resetOver (p : ResetProfile) (bus : Bus) (events : List OutsideEvent) : State :=
  match p with
  | .zero =>
    { a := 0x00#8, f := { z := false, n := false, h := false, c := false },
      b := 0x00#8, c := 0x00#8, d := 0x00#8, e := 0x00#8, h := 0x00#8, l := 0x00#8,
      sp := 0x0000#16, pc := 0x0000#16, ime := false, halted := false, stopped := false,
      bus := bus, events := events }
  | .dmgPostBoot =>
    { a := 0x01#8, f := { z := true, n := false, h := true, c := true },
      b := 0x00#8, c := 0x13#8, d := 0x00#8, e := 0xD8#8, h := 0x01#8, l := 0x4D#8,
      sp := 0xFFFE#16, pc := 0x0100#16, ime := false, halted := false, stopped := false,
      bus := bus, events := events }

/-- The machine right after its first reset under a profile. -/
def State.resetOf (p : ResetProfile) : State := State.resetOver p Bus.empty []

/-- The machine right after reset, under the profile the model takes (log entry 1). -/
def State.reset : State := State.resetOf Config.resetProfile

end Sys2Proof.Machine
end

