-- ==== Sys2Proof/Machine/Flags.lean ====
section
/-! DEFINITION. Every flag computation of the spec, each beside the value it belongs to, on integers as R11 says:
F as a byte (R101), 8-bit addition and subtraction (R600, R601), logic, INC and DEC, rotates and shifts, DAA,
16-bit addition and the SP-relative sum. -/

namespace Sys2Proof.Machine

/-- An 8-bit result with the four flags after it. -/
structure Alu8 where
  value : Byte
  flags : Flags
  deriving DecidableEq, Repr

/-- A 16-bit result with the four flags after it. -/
structure Alu16 where
  value : Word
  flags : Flags
  deriving DecidableEq, Repr

/-- One byte of F where its flag is set, else 0. -/
def maskIf (b : Bool) (mask : Byte) : Byte := if b then mask else 0x00#8

/-- R101: F as a byte: Z, N, H, C in bits 7 to 4, bits 3 to 0 zero. -/
def Flags.toByte (f : Flags) : Byte :=
  maskIf f.z 0x80#8 ||| maskIf f.n 0x40#8 ||| maskIf f.h 0x20#8 ||| maskIf f.c 0x10#8

/-- R101: a byte written to F: bits 7 to 4 become Z, N, H, C; bits 3 to 0 are discarded. -/
def Flags.ofByte (v : Byte) : Flags :=
  { z := v.getLsbD 7, n := v.getLsbD 6, h := v.getLsbD 5, c := v.getLsbD 4 }

/-- R600: `Add8(a, b, c)`. -/
def add8 (a b : Byte) (c : Bool) : Alu8 :=
  let s := a.toNat + b.toNat + c.toNat
  { value := BitVec.ofNat 8 s,
    flags := { z := s % 256 == 0, n := false,
               h := decide (15 < a.toNat % 16 + b.toNat % 16 + c.toNat), c := decide (255 < s) } }

/-- R601: `Sub8(a, b, c)`. -/
def sub8 (a b : Byte) (c : Bool) : Alu8 :=
  let d : Int := (a.toNat : Int) - (b.toNat : Int) - (c.toNat : Int)
  { value := BitVec.ofInt 8 d,
    flags := { z := d % 256 == 0, n := true,
               h := decide (a.toNat % 16 < b.toNat % 16 + c.toNat), c := decide (a.toNat < b.toNat + c.toNat) } }

/-- R610: AND: Z from the result, N 0, H 1, C 0. -/
def and8 (a b : Byte) : Alu8 :=
  { value := a &&& b, flags := { z := a &&& b == 0x00#8, n := false, h := true, c := false } }

/-- R612: XOR: Z from the result, N 0, H 0, C 0. -/
def xor8 (a b : Byte) : Alu8 :=
  { value := a ^^^ b, flags := { z := a ^^^ b == 0x00#8, n := false, h := false, c := false } }

/-- R614: OR: Z from the result, N 0, H 0, C 0. -/
def or8 (a b : Byte) : Alu8 :=
  { value := a ||| b, flags := { z := a ||| b == 0x00#8, n := false, h := false, c := false } }

/-- R602 to R617: the value and the flags of the eight accumulator operations on A, an operand and the old C.
CP's value is the difference it discards (R616). -/
def aluCompute (op : AluOp) (a v : Byte) (c : Bool) : Alu8 :=
  match op with
  | .add => add8 a v false
  | .adc => add8 a v c
  | .sub => sub8 a v false
  | .sbc => sub8 a v c
  | .and => and8 a v
  | .xor => xor8 a v
  | .or => or8 a v
  | .cp => sub8 a v false

/-- R618: INC: Z from the result, N 0, H iff the low nibble was 0xF, C unchanged. -/
def inc8 (v : Byte) (f : Flags) : Alu8 :=
  { value := v + 1, flags := { z := v + 1 == 0x00#8, n := false, h := v.toNat % 16 == 15, c := f.c } }

/-- R619: DEC: Z from the result, N 1, H iff the low nibble was 0, C unchanged. -/
def dec8 (v : Byte) (f : Flags) : Alu8 :=
  { value := v - 1, flags := { z := v - 1 == 0x00#8, n := true, h := v.toNat % 16 == 0, c := f.c } }

/-- R1001 to R1008: the byte a rotate or shift yields from an operand and the old C. -/
def shiftValue (op : ShiftOp) (v : Byte) (c : Bool) : Byte :=
  match op with
  | .rlc => (v <<< 1) ||| maskIf (v.getLsbD 7) 0x01#8
  | .rrc => (v >>> 1) ||| maskIf (v.getLsbD 0) 0x80#8
  | .rl => (v <<< 1) ||| maskIf c 0x01#8
  | .rr => (v >>> 1) ||| maskIf c 0x80#8
  | .sla => v <<< 1
  | .sra => (v >>> 1) ||| (v &&& 0x80#8)
  | .swap => (v <<< 4) ||| (v >>> 4)
  | .srl => v >>> 1

/-- R1001 to R1008: the C a rotate or shift leaves: the bit shifted out; 0 for SWAP. -/
def shiftCarry (op : ShiftOp) (v : Byte) : Bool :=
  match op with
  | .rlc | .rl | .sla => v.getLsbD 7
  | .rrc | .rr | .sra | .srl => v.getLsbD 0
  | .swap => false

/-- R1001 to R1008: Z from the result, N 0, H 0, C the bit shifted out. -/
def shift8 (op : ShiftOp) (v : Byte) (c : Bool) : Alu8 :=
  { value := shiftValue op v c,
    flags := { z := shiftValue op v c == 0x00#8, n := false, h := false, c := shiftCarry op v } }

/-- R700 to R703: the accumulator rotates: the CB operation's value and C, with Z, N and H cleared (90 C7). -/
def rotateA8 (op : ShiftOp) (a : Byte) (c : Bool) : Alu8 :=
  { value := shiftValue op a c, flags := { z := false, n := false, h := false, c := shiftCarry op a } }

/-- R704, N = 0: A after the low-nibble step, at full width (92 D15). -/
def daaLowAdd (a : Byte) (f : Flags) : Nat :=
  if f.h = true ∨ 9 < a.toNat % 16 then a.toNat + 0x06 else a.toNat

/-- R704, N = 0: whether the high step is made: the old C, or the value after the low step above 0x99. -/
def daaCarryAdd (a : Byte) (f : Flags) : Bool := f.c || decide (0x99 < daaLowAdd a f)

/-- R704, N = 0: A after both steps, before the reduction. -/
def daaAdd (a : Byte) (f : Flags) : Nat :=
  if daaCarryAdd a f then daaLowAdd a f + 0x60 else daaLowAdd a f

/-- R704, N = 1: A after both steps, before the reduction. -/
def daaSub (a : Byte) (f : Flags) : Int :=
  (a.toNat : Int) - (if f.h then 0x06 else 0) - (if f.c then 0x60 else 0)

/-- R704: DAA: Z from the result, N unchanged, H 0. -/
def daa8 (a : Byte) (f : Flags) : Alu8 :=
  if f.n then
    { value := BitVec.ofInt 8 (daaSub a f),
      flags := { z := daaSub a f % 256 == 0, n := true, h := false, c := f.c } }
  else
    { value := BitVec.ofNat 8 (daaAdd a f),
      flags := { z := daaAdd a f % 256 == 0, n := false, h := false, c := daaCarryAdd a f } }

/-- R801: ADD HL,rr: Z unchanged, N 0, H the carry out of bit 11, C the carry out of bit 15. -/
def addHl16 (hl v : Word) (f : Flags) : Alu16 :=
  { value := BitVec.ofNat 16 (hl.toNat + v.toNat),
    flags := { z := f.z, n := false, h := decide (0x0FFF < hl.toNat % 0x1000 + v.toNat % 0x1000),
               c := decide (0xFFFF < hl.toNat + v.toNat) } }

/-- R800: `AddSPe(e)`: Z 0, N 0, H and C from the low byte of SP plus the displacement byte taken unsigned. -/
def addSpE16 (sp : Word) (e : Byte) : Alu16 :=
  { value := sp + sext16 e,
    flags := { z := false, n := false, h := decide (15 < sp.toNat % 16 + e.toNat % 16),
               c := decide (255 < sp.toNat % 256 + e.toNat) } }

/-- R1009: BIT: Z iff the tested bit is 0, N 0, H 1, C unchanged. -/
def bitFlags (v : Byte) (bit : Nat) (f : Flags) : Flags :=
  { z := !v.getLsbD bit, n := false, h := true, c := f.c }

/-- R705: CPL: N 1, H 1. -/
def cplFlags (f : Flags) : Flags := { f with n := true, h := true }

/-- R706: SCF: N 0, H 0, C 1. -/
def scfFlags (f : Flags) : Flags := { f with n := false, h := false, c := true }

/-- R707: CCF: N 0, H 0, C inverted. -/
def ccfFlags (f : Flags) : Flags := { f with n := false, h := false, c := !f.c }

/-- R1100: `cond(c)`. -/
def condHolds (cc : Cond) (f : Flags) : Bool :=
  match cc with
  | .nz => !f.z
  | .z => f.z
  | .nc => !f.c
  | .c => f.c

end Sys2Proof.Machine
end

