-- ==== Sys2Proof/Machine/Ops.lean ====
section
/-! DEFINITION. The named operations over memory, the bus, the stack and the program counter; taking the one exception
(R1201) and returning from an interrupt handler (R1109); and what an act of the outside world does (R1204, R1300). -/

namespace Sys2Proof.Machine

/-- The RAM byte at an address: its entry's byte, else `Config.unlistedByte` (R211). -/
def Memory.peek : List Host.Cell → Nat → Byte
  | [], _ => Config.unlistedByte
  | (k, x) :: rest, addr => if k = addr then x else Memory.peek rest addr

/-- The RAM with one byte set (R211), in the canonical form: the entry goes to its place in the rising order, and
writing `Config.unlistedByte` leaves no entry. -/
def Memory.poke : List Host.Cell → Nat → Byte → List Host.Cell
  | [], addr, v => if v = Config.unlistedByte then [] else [(addr, v)]
  | (k, x) :: rest, addr, v =>
    if addr < k then
      if v = Config.unlistedByte then (k, x) :: rest else (addr, v) :: (k, x) :: rest
    else if addr = k then
      if v = Config.unlistedByte then rest else (addr, v) :: rest
    else (k, x) :: Memory.poke rest addr v

/-- The canonical form from an address on: addresses at least `lo`, strictly rising, inside the 65,536 bytes of R200,
and no entry equal to what an unlisted address reads as. -/
def Memory.wfFrom (lo : Nat) : List Host.Cell → Bool
  | [] => true
  | (k, x) :: rest => decide (lo ≤ k) && decide (k < 65536) && (x != Config.unlistedByte) && Memory.wfFrom (k + 1) rest

/-- The canonical form of a memory: equal memories are equal lists. -/
def Memory.wf (m : List Host.Cell) : Bool := Memory.wfFrom 0 m

/-- The RAM byte at an address, read without any bus call: what statements say of memory. -/
def State.peek (s : State) (addr : Word) : Byte := Memory.peek s.bus.mem addr.toNat

/-- R201: the byte the bus returns to a `read8` at an address: its next pending answer, else the RAM byte (R211). -/
def State.answer (s : State) (addr : Word) : Byte :=
  match s.bus.answers with
  | v :: _ => v
  | [] => s.peek addr

/-- R13, `MemRead(addr, 1)`: the state after one `read8` call, whose value is `State.answer`. -/
def State.afterRead (s : State) (addr : Word) : State :=
  { s with bus := { mem := s.bus.mem, answers := s.bus.answers.tail, calls := .read addr (s.answer addr) :: s.bus.calls } }

/-- R13, `MemWrite(addr, 1, v)`: one `write8` call. -/
def State.busWrite (s : State) (addr : Word) (v : Byte) : State :=
  { s with bus := { mem := Memory.poke s.bus.mem addr.toNat v, answers := s.bus.answers, calls := .write addr v :: s.bus.calls } }

/-- R202, `MemRead(addr, 2)`: low byte at `addr`, then high byte at `addr + 1` modulo 65536. -/
def State.busRead16 (s : State) (addr : Word) : Word × State :=
  let s1 := s.afterRead addr
  (concat (s1.answer (addr + 1)) (s.answer addr), s1.afterRead (addr + 1))

/-- R202, `MemWrite(addr, 2, v)`: low byte at `addr`, then high byte at `addr + 1` modulo 65536. -/
def State.busWrite16 (s : State) (addr : Word) (v : Word) : State :=
  (s.busWrite addr (lowByte v)).busWrite (addr + 1) (highByte v)

/-- R14, `Fetch8()`: the byte at PC, with PC advanced by one modulo 65536. -/
def State.fetch8 (s : State) : Byte × State :=
  (s.answer s.pc, { s.afterRead s.pc with pc := s.pc + 1 })

/-- `n` calls of `Fetch8()` in a row: the bytes in the order fetched (R14). -/
def State.fetchBytes : Nat → State → List Byte × State
  | 0, s => ([], s)
  | n + 1, s =>
    let r := s.fetch8
    let rs := State.fetchBytes n r.2
    (r.1 :: rs.1, rs.2)

/-- R300, R210, R309: all bytes of the instruction at PC, fetched in order before anything else of it happens, and the
instruction they are. -/
def State.fetchInstr (len : StopLength) (s : State) : Instr × State :=
  let r := s.fetch8
  let rs := State.fetchBytes (instrLength len r.1 - 1) r.2
  (decodeOpcode len r.1 (rs.1.getD 0 0x00#8) (rs.1.getD 1 0x00#8), rs.2)

/-- R102: the pair BC. -/
def State.bc (s : State) : Word := concat s.b s.c

/-- R102: the pair DE. -/
def State.de (s : State) : Word := concat s.d s.e

/-- R102: the pair HL. -/
def State.hl (s : State) : Word := concat s.h s.l

/-- R102: a write to BC. -/
def State.setBc (s : State) (v : Word) : State := { s with b := highByte v, c := lowByte v }

/-- R102: a write to DE. -/
def State.setDe (s : State) (v : Word) : State := { s with d := highByte v, e := lowByte v }

/-- R102: a write to HL. -/
def State.setHl (s : State) (v : Word) : State := { s with h := highByte v, l := lowByte v }

/-- R500, `Push16(v)`: SP falls by 2 modulo 65536, then `v` is stored at the new SP, low byte first. -/
def State.push16 (s : State) (v : Word) : State :=
  { s with sp := s.sp - 2 }.busWrite16 (s.sp - 2) v

/-- R501, `Pop16()`: the word at SP, low byte first; then SP rises by 2 modulo 65536. -/
def State.pop16 (s : State) : Word × State :=
  let r := s.busRead16 s.sp
  (r.1, { r.2 with sp := s.sp + 2 })

/-- R1201, `raise IllegalOpcode(op)`: Stopped is set and nothing else changes. The exception saves nothing, so the
opcode is no argument; PC keeps the value the opcode fetch left. -/
def State.raiseIllegalOpcode (s : State) : State := { s with stopped := true }

/-- R1109, R1209: the return from an interrupt handler: PC is popped, then IME is set; nothing else is restored. -/
def State.returnFromInterrupt (s : State) : State :=
  let r := s.pop16
  { r.2 with pc := r.1, ime := true }

/-- R1106, R1111: push the current PC, which is the address of the next instruction, and go to a target. -/
def State.callTo (s : State) (target : Word) : State :=
  { s.push16 s.pc with pc := target }

/-- R1104: PC plus the sign-extended displacement, modulo 65536. -/
def State.jumpRelative (s : State) (e : Byte) : State :=
  { s with pc := s.pc + sext16 e }

/-- R1108: PC is popped. -/
def State.returnTo (s : State) : State :=
  let r := s.pop16
  { r.2 with pc := r.1 }

/-- R1204: what one dispatcher move does. It reaches IME, Halted, Stopped, PC, SP and the bus, and nothing else. -/
def State.dispatcherMove (s : State) : DispatcherMove → State
  | .setIme v => { s with ime := v }
  | .setHalted v => { s with halted := v }
  | .setStopped v => { s with stopped := v }
  | .setPc v => { s with pc := v }
  | .setSp v => { s with sp := v }
  | .busRead addr => s.afterRead addr
  | .busWrite addr v => s.busWrite addr v

/-- R1300, R131: the host resets the core. The register file and the CPU state take the values of R130; the bus, its
memory included, and what the outside world has still to do stay. -/
def State.hostReset (p : ResetProfile) (s : State) : State := State.resetOver p s.bus s.events

/-- R1206 (informative): the moves with which a dispatcher services an interrupt at a vector in a state whose PC and
SP it has read: `IME <- 0; Halted <- 0; SP <- SP - 2; MemWrite(SP, 2, PC); PC <- vector`. -/
def interruptService (s : State) (vector : Word) : List OutsideEvent :=
  [.dispatcher (.setIme false), .dispatcher (.setHalted false), .dispatcher (.setSp (s.sp - 2)),
   .dispatcher (.busWrite (s.sp - 2) (lowByte s.pc)), .dispatcher (.busWrite (s.sp - 2 + 1) (highByte s.pc)),
   .dispatcher (.setPc vector)]

/-- The RAM with bytes stored from an address on, addresses modulo 65536. -/
def Memory.pokeBytes : List Host.Cell → Word → List Byte → List Host.Cell
  | m, _, [] => m
  | m, addr, v :: rest => Memory.pokeBytes (Memory.poke m addr.toNat v) (addr + 1) rest

/-- The state whose next step fetches and runs the instruction with these bytes: they stand at PC in the RAM, no bus
answer and no outside event stands before them, and the core is Running (log entry 5). -/
def State.placeInstr (s : State) (bytes : List Byte) : State :=
  { s with
    halted := false, stopped := false, events := [],
    bus := { s.bus with mem := Memory.pokeBytes s.bus.mem s.pc bytes, answers := [] } }

end Sys2Proof.Machine
end

