-- ==== Sys2Proof/Machine/Operands.lean ====
section
/-! DEFINITION. Every operand form of the spec (R110 to R116): the operand location, resolved once and read and
written through, the pair families, the indirect-pair family with its side effect, and the high page. -/

namespace Sys2Proof.Machine

/-- R100: an 8-bit register's value. -/
def State.reg (s : State) : Reg8 → Byte
  | .a => s.a
  | .b => s.b
  | .c => s.c
  | .d => s.d
  | .e => s.e
  | .h => s.h
  | .l => s.l

/-- R100: a write to an 8-bit register. -/
def State.setReg (s : State) (r : Reg8) (v : Byte) : State :=
  match r with
  | .a => { s with a := v }
  | .b => { s with b := v }
  | .c => { s with c := v }
  | .d => { s with d := v }
  | .e => { s with e := v }
  | .h => { s with h := v }
  | .l => { s with l := v }

/-- R116: the location of an 8-bit operand: a register or a memory address. (The 16-bit locations of R116, a pair or
SP, are `Rp` and `Rp2` themselves: their resolution depends on no state.) -/
inductive Loc
  | reg8 (r : Reg8)
  | mem (addr : Word)
  deriving DecidableEq, Repr

/-- R110, R116: the location of an `r8` operand. For (HL) it is the address HL holds now. -/
def State.resolve (s : State) : R8 → Loc
  | .b => .reg8 .b
  | .c => .reg8 .c
  | .d => .reg8 .d
  | .e => .reg8 .e
  | .h => .reg8 .h
  | .l => .reg8 .l
  | .atHl => .mem s.hl
  | .a => .reg8 .a

/-- R116: the value an 8-bit read of a location returns: the register's current value, or the byte of one `MemRead`. -/
def State.locValue (s : State) : Loc → Byte
  | .reg8 r => s.reg r
  | .mem addr => s.answer addr

/-- R116: the state after reading a location: reading a register makes no bus access. -/
def State.afterLocRead (s : State) : Loc → State
  | .reg8 _ => s
  | .mem addr => s.afterRead addr

/-- R111: a pair or SP. -/
def State.rp (s : State) : Rp → Word
  | .bc => s.bc
  | .de => s.de
  | .hl => s.hl
  | .sp => s.sp

/-- R111, R102: a write to a pair or SP. -/
def State.setRp (s : State) (p : Rp) (v : Word) : State :=
  match p with
  | .bc => s.setBc v
  | .de => s.setDe v
  | .hl => s.setHl v
  | .sp => { s with sp := v }

/-- R116: an 8-bit write to a location: the register, or one `MemWrite`. -/
def State.writeLoc (s : State) (loc : Loc) (v : Byte) : State :=
  match loc with
  | .reg8 r => s.setReg r v
  | .mem addr => s.busWrite addr v

/-- R112: a pair as PUSH and POP name it; AF's low byte is F as a byte (R101). -/
def State.rp2 (s : State) : Rp2 → Word
  | .bc => s.bc
  | .de => s.de
  | .hl => s.hl
  | .af => concat s.a s.f.toByte

/-- R112, R102: a write to a pair as POP names it; AF's low byte goes through the F write of R101. -/
def State.setRp2 (s : State) (q : Rp2) (v : Word) : State :=
  match q with
  | .bc => s.setBc v
  | .de => s.setDe v
  | .hl => s.setHl v
  | .af => { s with a := highByte v, f := Flags.ofByte (lowByte v) }

/-- R113: the address an indirect-pair operand names, before its side effect. -/
def State.indAddr (s : State) : Ind → Word
  | .bc => s.bc
  | .de => s.de
  | .hlInc => s.hl
  | .hlDec => s.hl

/-- R113: the side effect of an indirect-pair operand, applied once, after the access: HL steps by one modulo 65536. -/
def State.indStep (s : State) : Ind → State
  | .bc => s
  | .de => s
  | .hlInc => s.setHl (s.hl + 1)
  | .hlDec => s.setHl (s.hl - 1)

/-- R415, R417: an address of the high page, 0xFF00 plus an unsigned byte. -/
def highPage (n : Byte) : Word := 0xFF00#16 + n.setWidth 16

end Sys2Proof.Machine
end

