-- ==== Sys2Proof/Machine/AccumulatorMisc.lean ====
section
/-! DEFINITION. Accumulator rotates, DAA, CPL, SCF and CCF (R700 to R707). -/

namespace Sys2Proof.Machine

/-- R700 to R703: a rotate of A that clears Z, N and H. -/
def rotateA (op : ShiftOp) (s : State) : Result :=
  let r := rotateA8 op s.a s.f.c
  .next { s with a := r.value, f := r.flags }

/-- RLCA (R700). -/
def execRlca (s : State) : Result :=
  rotateA .rlc s

/-- RRCA (R701). -/
def execRrca (s : State) : Result :=
  rotateA .rrc s

/-- RLA (R702). -/
def execRla (s : State) : Result :=
  rotateA .rl s

/-- RRA (R703). -/
def execRra (s : State) : Result :=
  rotateA .rr s

/-- DAA (R704). -/
def execDaa (s : State) : Result :=
  .next { s with a := (daa8 s.a s.f).value, f := (daa8 s.a s.f).flags }

/-- CPL (R705). -/
def execCpl (s : State) : Result :=
  .next { s with a := ~~~s.a, f := cplFlags s.f }

/-- SCF (R706). -/
def execScf (s : State) : Result :=
  .next { s with f := scfFlags s.f }

/-- CCF (R707). -/
def execCcf (s : State) : Result :=
  .next { s with f := ccfFlags s.f }

end Sys2Proof.Machine
end

