-- ==== Sys2Proof/Machine/Alu16.lean ====
section
/-! DEFINITION. 16-bit arithmetic (R800 to R805). No bus access, nothing raised. -/

namespace Sys2Proof.Machine

/-- R801: ADD HL,rp. The pair is read before HL is written. -/
def addToHl (p : Rp) (s : State) : Result :=
  let r := addHl16 s.hl (s.rp p) s.f
  .next { s.setHl r.value with f := r.flags }

/-- ADD SP,e8 (R804). -/
def execAddSpE8 (e : Byte) (s : State) : Result :=
  .next { s with sp := (addSpE16 s.sp e).value, f := (addSpE16 s.sp e).flags }

/-- LD HL,SP+e8 (R805). -/
def execLdHlSpE8 (e : Byte) (s : State) : Result :=
  .next { s.setHl (addSpE16 s.sp e).value with f := (addSpE16 s.sp e).flags }

/-- INC BC (R802). -/
def execIncBc (s : State) : Result :=
  .next (s.setRp .bc (s.rp .bc + 1))

/-- ADD HL,BC (R801). -/
def execAddHlBc (s : State) : Result :=
  addToHl .bc s

/-- DEC BC (R803). -/
def execDecBc (s : State) : Result :=
  .next (s.setRp .bc (s.rp .bc - 1))

/-- INC DE (R802). -/
def execIncDe (s : State) : Result :=
  .next (s.setRp .de (s.rp .de + 1))

/-- ADD HL,DE (R801). -/
def execAddHlDe (s : State) : Result :=
  addToHl .de s

/-- DEC DE (R803). -/
def execDecDe (s : State) : Result :=
  .next (s.setRp .de (s.rp .de - 1))

/-- INC HL (R802). -/
def execIncHl (s : State) : Result :=
  .next (s.setRp .hl (s.rp .hl + 1))

/-- ADD HL,HL (R801). -/
def execAddHlHl (s : State) : Result :=
  addToHl .hl s

/-- DEC HL (R803). -/
def execDecHl (s : State) : Result :=
  .next (s.setRp .hl (s.rp .hl - 1))

/-- INC SP (R802). -/
def execIncSp (s : State) : Result :=
  .next (s.setRp .sp (s.rp .sp + 1))

/-- ADD HL,SP (R801). -/
def execAddHlSp (s : State) : Result :=
  addToHl .sp s

/-- DEC SP (R803). -/
def execDecSp (s : State) : Result :=
  .next (s.setRp .sp (s.rp .sp - 1))

end Sys2Proof.Machine
end

