-- ==== Sys2Proof/Machine/Alu8.lean ====
section
/-! DEFINITION. 8-bit arithmetic and logic (R602 to R619). -/

namespace Sys2Proof.Machine

/-- R602 to R617: an accumulator operation on A and a value; CP discards its result (R616). -/
def aluApply (op : AluOp) (v : Byte) (acc : Byte) (f : Flags) (s : State) : State :=
  let r := aluCompute op acc v f.c
  match op with
  | .cp => { s with f := r.flags }
  | _ => { s with a := r.value, f := r.flags }

/-- R602 to R616, the `m` forms: the operand is read once, then combined with A. -/
def aluOperand (op : AluOp) (m : R8) (s : State) : Result :=
  let loc := s.resolve m
  .next (aluApply op (s.locValue loc) s.a s.f (s.afterLocRead loc))

/-- R603 to R617, the `n8` forms. -/
def aluByte (op : AluOp) (n : Byte) (s : State) : Result :=
  .next (aluApply op n s.a s.f s)

/-- R618: INC of an `r8` operand in place: one read, one write, at the location resolved once. -/
def incOperand (m : R8) (s : State) : Result :=
  let loc := s.resolve m
  let r := inc8 (s.locValue loc) s.f
  .next { (s.afterLocRead loc).writeLoc loc r.value with f := r.flags }

/-- R619: DEC of an `r8` operand in place: one read, one write, at the location resolved once. -/
def decOperand (m : R8) (s : State) : Result :=
  let loc := s.resolve m
  let r := dec8 (s.locValue loc) s.f
  .next { (s.afterLocRead loc).writeLoc loc r.value with f := r.flags }

/-- ADD A,n8 (R603). -/
def execAddAN8 (n : Byte) (s : State) : Result :=
  aluByte .add n s

/-- ADC A,n8 (R605). -/
def execAdcAN8 (n : Byte) (s : State) : Result :=
  aluByte .adc n s

/-- SUB n8 (R607). -/
def execSubN8 (n : Byte) (s : State) : Result :=
  aluByte .sub n s

/-- SBC A,n8 (R609). -/
def execSbcAN8 (n : Byte) (s : State) : Result :=
  aluByte .sbc n s

/-- AND n8 (R611). -/
def execAndN8 (n : Byte) (s : State) : Result :=
  aluByte .and n s

/-- XOR n8 (R613). -/
def execXorN8 (n : Byte) (s : State) : Result :=
  aluByte .xor n s

/-- OR n8 (R615). -/
def execOrN8 (n : Byte) (s : State) : Result :=
  aluByte .or n s

/-- CP n8 (R617). -/
def execCpN8 (n : Byte) (s : State) : Result :=
  aluByte .cp n s

/-- INC B (R618). -/
def execIncB (s : State) : Result :=
  incOperand .b s

/-- DEC B (R619). -/
def execDecB (s : State) : Result :=
  decOperand .b s

/-- INC C (R618). -/
def execIncC (s : State) : Result :=
  incOperand .c s

/-- DEC C (R619). -/
def execDecC (s : State) : Result :=
  decOperand .c s

/-- INC D (R618). -/
def execIncD (s : State) : Result :=
  incOperand .d s

/-- DEC D (R619). -/
def execDecD (s : State) : Result :=
  decOperand .d s

/-- INC E (R618). -/
def execIncE (s : State) : Result :=
  incOperand .e s

/-- DEC E (R619). -/
def execDecE (s : State) : Result :=
  decOperand .e s

/-- INC H (R618). -/
def execIncH (s : State) : Result :=
  incOperand .h s

/-- DEC H (R619). -/
def execDecH (s : State) : Result :=
  decOperand .h s

/-- INC L (R618). -/
def execIncL (s : State) : Result :=
  incOperand .l s

/-- DEC L (R619). -/
def execDecL (s : State) : Result :=
  decOperand .l s

/-- INC (HL) (R618). -/
def execIncAtHl (s : State) : Result :=
  incOperand .atHl s

/-- DEC (HL) (R619). -/
def execDecAtHl (s : State) : Result :=
  decOperand .atHl s

/-- INC A (R618). -/
def execIncA (s : State) : Result :=
  incOperand .a s

/-- DEC A (R619). -/
def execDecA (s : State) : Result :=
  decOperand .a s

/-- ADD A,B (R602). -/
def execAddAB (s : State) : Result :=
  aluOperand .add .b s

/-- ADD A,C (R602). -/
def execAddAC (s : State) : Result :=
  aluOperand .add .c s

/-- ADD A,D (R602). -/
def execAddAD (s : State) : Result :=
  aluOperand .add .d s

/-- ADD A,E (R602). -/
def execAddAE (s : State) : Result :=
  aluOperand .add .e s

/-- ADD A,H (R602). -/
def execAddAH (s : State) : Result :=
  aluOperand .add .h s

/-- ADD A,L (R602). -/
def execAddAL (s : State) : Result :=
  aluOperand .add .l s

/-- ADD A,(HL) (R602). -/
def execAddAAtHl (s : State) : Result :=
  aluOperand .add .atHl s

/-- ADD A,A (R602). -/
def execAddAA (s : State) : Result :=
  aluOperand .add .a s

/-- ADC A,B (R604). -/
def execAdcAB (s : State) : Result :=
  aluOperand .adc .b s

/-- ADC A,C (R604). -/
def execAdcAC (s : State) : Result :=
  aluOperand .adc .c s

/-- ADC A,D (R604). -/
def execAdcAD (s : State) : Result :=
  aluOperand .adc .d s

/-- ADC A,E (R604). -/
def execAdcAE (s : State) : Result :=
  aluOperand .adc .e s

/-- ADC A,H (R604). -/
def execAdcAH (s : State) : Result :=
  aluOperand .adc .h s

/-- ADC A,L (R604). -/
def execAdcAL (s : State) : Result :=
  aluOperand .adc .l s

/-- ADC A,(HL) (R604). -/
def execAdcAAtHl (s : State) : Result :=
  aluOperand .adc .atHl s

/-- ADC A,A (R604). -/
def execAdcAA (s : State) : Result :=
  aluOperand .adc .a s

/-- SUB B (R606). -/
def execSubB (s : State) : Result :=
  aluOperand .sub .b s

/-- SUB C (R606). -/
def execSubC (s : State) : Result :=
  aluOperand .sub .c s

/-- SUB D (R606). -/
def execSubD (s : State) : Result :=
  aluOperand .sub .d s

/-- SUB E (R606). -/
def execSubE (s : State) : Result :=
  aluOperand .sub .e s

/-- SUB H (R606). -/
def execSubH (s : State) : Result :=
  aluOperand .sub .h s

/-- SUB L (R606). -/
def execSubL (s : State) : Result :=
  aluOperand .sub .l s

/-- SUB (HL) (R606). -/
def execSubAtHl (s : State) : Result :=
  aluOperand .sub .atHl s

/-- SUB A (R606). -/
def execSubA (s : State) : Result :=
  aluOperand .sub .a s

/-- SBC A,B (R608). -/
def execSbcAB (s : State) : Result :=
  aluOperand .sbc .b s

/-- SBC A,C (R608). -/
def execSbcAC (s : State) : Result :=
  aluOperand .sbc .c s

/-- SBC A,D (R608). -/
def execSbcAD (s : State) : Result :=
  aluOperand .sbc .d s

/-- SBC A,E (R608). -/
def execSbcAE (s : State) : Result :=
  aluOperand .sbc .e s

/-- SBC A,H (R608). -/
def execSbcAH (s : State) : Result :=
  aluOperand .sbc .h s

/-- SBC A,L (R608). -/
def execSbcAL (s : State) : Result :=
  aluOperand .sbc .l s

/-- SBC A,(HL) (R608). -/
def execSbcAAtHl (s : State) : Result :=
  aluOperand .sbc .atHl s

/-- SBC A,A (R608). -/
def execSbcAA (s : State) : Result :=
  aluOperand .sbc .a s

/-- AND B (R610). -/
def execAndB (s : State) : Result :=
  aluOperand .and .b s

/-- AND C (R610). -/
def execAndC (s : State) : Result :=
  aluOperand .and .c s

/-- AND D (R610). -/
def execAndD (s : State) : Result :=
  aluOperand .and .d s

/-- AND E (R610). -/
def execAndE (s : State) : Result :=
  aluOperand .and .e s

/-- AND H (R610). -/
def execAndH (s : State) : Result :=
  aluOperand .and .h s

/-- AND L (R610). -/
def execAndL (s : State) : Result :=
  aluOperand .and .l s

/-- AND (HL) (R610). -/
def execAndAtHl (s : State) : Result :=
  aluOperand .and .atHl s

/-- AND A (R610). -/
def execAndA (s : State) : Result :=
  aluOperand .and .a s

/-- XOR B (R612). -/
def execXorB (s : State) : Result :=
  aluOperand .xor .b s

/-- XOR C (R612). -/
def execXorC (s : State) : Result :=
  aluOperand .xor .c s

/-- XOR D (R612). -/
def execXorD (s : State) : Result :=
  aluOperand .xor .d s

/-- XOR E (R612). -/
def execXorE (s : State) : Result :=
  aluOperand .xor .e s

/-- XOR H (R612). -/
def execXorH (s : State) : Result :=
  aluOperand .xor .h s

/-- XOR L (R612). -/
def execXorL (s : State) : Result :=
  aluOperand .xor .l s

/-- XOR (HL) (R612). -/
def execXorAtHl (s : State) : Result :=
  aluOperand .xor .atHl s

/-- XOR A (R612). -/
def execXorA (s : State) : Result :=
  aluOperand .xor .a s

/-- OR B (R614). -/
def execOrB (s : State) : Result :=
  aluOperand .or .b s

/-- OR C (R614). -/
def execOrC (s : State) : Result :=
  aluOperand .or .c s

/-- OR D (R614). -/
def execOrD (s : State) : Result :=
  aluOperand .or .d s

/-- OR E (R614). -/
def execOrE (s : State) : Result :=
  aluOperand .or .e s

/-- OR H (R614). -/
def execOrH (s : State) : Result :=
  aluOperand .or .h s

/-- OR L (R614). -/
def execOrL (s : State) : Result :=
  aluOperand .or .l s

/-- OR (HL) (R614). -/
def execOrAtHl (s : State) : Result :=
  aluOperand .or .atHl s

/-- OR A (R614). -/
def execOrA (s : State) : Result :=
  aluOperand .or .a s

/-- CP B (R616). -/
def execCpB (s : State) : Result :=
  aluOperand .cp .b s

/-- CP C (R616). -/
def execCpC (s : State) : Result :=
  aluOperand .cp .c s

/-- CP D (R616). -/
def execCpD (s : State) : Result :=
  aluOperand .cp .d s

/-- CP E (R616). -/
def execCpE (s : State) : Result :=
  aluOperand .cp .e s

/-- CP H (R616). -/
def execCpH (s : State) : Result :=
  aluOperand .cp .h s

/-- CP L (R616). -/
def execCpL (s : State) : Result :=
  aluOperand .cp .l s

/-- CP (HL) (R616). -/
def execCpAtHl (s : State) : Result :=
  aluOperand .cp .atHl s

/-- CP A (R616). -/
def execCpA (s : State) : Result :=
  aluOperand .cp .a s

end Sys2Proof.Machine
end

