-- ==== Sys2Proof/Machine/CbSet.lean ====
section
/-! DEFINITION. The CB-prefixed set (R1000 to R1011): all 256 rows. The operand is resolved once (R116). -/

namespace Sys2Proof.Machine

/-- R1001 to R1008: a rotate or shift of an `r8` operand in place: one read, one write (R1000). -/
def shiftOperand (op : ShiftOp) (m : R8) (s : State) : Result :=
  let loc := s.resolve m
  let r := shift8 op (s.locValue loc) s.f.c
  .next { (s.afterLocRead loc).writeLoc loc r.value with f := r.flags }

/-- R1009: BIT: one read, no write (R1000). -/
def testBit (bit : Nat) (m : R8) (s : State) : Result :=
  let loc := s.resolve m
  .next { s.afterLocRead loc with f := bitFlags (s.locValue loc) bit s.f }

/-- R1010: RES: one read, one write (R1000), no flag. -/
def resetBit (bit : Nat) (m : R8) (s : State) : Result :=
  let loc := s.resolve m
  .next ((s.afterLocRead loc).writeLoc loc (s.locValue loc &&& ~~~(0x01#8 <<< bit)))

/-- R1011: SET: one read, one write (R1000), no flag. -/
def setBit (bit : Nat) (m : R8) (s : State) : Result :=
  let loc := s.resolve m
  .next ((s.afterLocRead loc).writeLoc loc (s.locValue loc ||| (0x01#8 <<< bit)))

/-- RLC B (R1001). -/
def execCbRlcB (s : State) : Result :=
  shiftOperand .rlc .b s

/-- RLC C (R1001). -/
def execCbRlcC (s : State) : Result :=
  shiftOperand .rlc .c s

/-- RLC D (R1001). -/
def execCbRlcD (s : State) : Result :=
  shiftOperand .rlc .d s

/-- RLC E (R1001). -/
def execCbRlcE (s : State) : Result :=
  shiftOperand .rlc .e s

/-- RLC H (R1001). -/
def execCbRlcH (s : State) : Result :=
  shiftOperand .rlc .h s

/-- RLC L (R1001). -/
def execCbRlcL (s : State) : Result :=
  shiftOperand .rlc .l s

/-- RLC (HL) (R1001). -/
def execCbRlcAtHl (s : State) : Result :=
  shiftOperand .rlc .atHl s

/-- RLC A (R1001). -/
def execCbRlcA (s : State) : Result :=
  shiftOperand .rlc .a s

/-- RRC B (R1002). -/
def execCbRrcB (s : State) : Result :=
  shiftOperand .rrc .b s

/-- RRC C (R1002). -/
def execCbRrcC (s : State) : Result :=
  shiftOperand .rrc .c s

/-- RRC D (R1002). -/
def execCbRrcD (s : State) : Result :=
  shiftOperand .rrc .d s

/-- RRC E (R1002). -/
def execCbRrcE (s : State) : Result :=
  shiftOperand .rrc .e s

/-- RRC H (R1002). -/
def execCbRrcH (s : State) : Result :=
  shiftOperand .rrc .h s

/-- RRC L (R1002). -/
def execCbRrcL (s : State) : Result :=
  shiftOperand .rrc .l s

/-- RRC (HL) (R1002). -/
def execCbRrcAtHl (s : State) : Result :=
  shiftOperand .rrc .atHl s

/-- RRC A (R1002). -/
def execCbRrcA (s : State) : Result :=
  shiftOperand .rrc .a s

/-- RL B (R1003). -/
def execCbRlB (s : State) : Result :=
  shiftOperand .rl .b s

/-- RL C (R1003). -/
def execCbRlC (s : State) : Result :=
  shiftOperand .rl .c s

/-- RL D (R1003). -/
def execCbRlD (s : State) : Result :=
  shiftOperand .rl .d s

/-- RL E (R1003). -/
def execCbRlE (s : State) : Result :=
  shiftOperand .rl .e s

/-- RL H (R1003). -/
def execCbRlH (s : State) : Result :=
  shiftOperand .rl .h s

/-- RL L (R1003). -/
def execCbRlL (s : State) : Result :=
  shiftOperand .rl .l s

/-- RL (HL) (R1003). -/
def execCbRlAtHl (s : State) : Result :=
  shiftOperand .rl .atHl s

/-- RL A (R1003). -/
def execCbRlA (s : State) : Result :=
  shiftOperand .rl .a s

/-- RR B (R1004). -/
def execCbRrB (s : State) : Result :=
  shiftOperand .rr .b s

/-- RR C (R1004). -/
def execCbRrC (s : State) : Result :=
  shiftOperand .rr .c s

/-- RR D (R1004). -/
def execCbRrD (s : State) : Result :=
  shiftOperand .rr .d s

/-- RR E (R1004). -/
def execCbRrE (s : State) : Result :=
  shiftOperand .rr .e s

/-- RR H (R1004). -/
def execCbRrH (s : State) : Result :=
  shiftOperand .rr .h s

/-- RR L (R1004). -/
def execCbRrL (s : State) : Result :=
  shiftOperand .rr .l s

/-- RR (HL) (R1004). -/
def execCbRrAtHl (s : State) : Result :=
  shiftOperand .rr .atHl s

/-- RR A (R1004). -/
def execCbRrA (s : State) : Result :=
  shiftOperand .rr .a s

/-- SLA B (R1005). -/
def execCbSlaB (s : State) : Result :=
  shiftOperand .sla .b s

/-- SLA C (R1005). -/
def execCbSlaC (s : State) : Result :=
  shiftOperand .sla .c s

/-- SLA D (R1005). -/
def execCbSlaD (s : State) : Result :=
  shiftOperand .sla .d s

/-- SLA E (R1005). -/
def execCbSlaE (s : State) : Result :=
  shiftOperand .sla .e s

/-- SLA H (R1005). -/
def execCbSlaH (s : State) : Result :=
  shiftOperand .sla .h s

/-- SLA L (R1005). -/
def execCbSlaL (s : State) : Result :=
  shiftOperand .sla .l s

/-- SLA (HL) (R1005). -/
def execCbSlaAtHl (s : State) : Result :=
  shiftOperand .sla .atHl s

/-- SLA A (R1005). -/
def execCbSlaA (s : State) : Result :=
  shiftOperand .sla .a s

/-- SRA B (R1006). -/
def execCbSraB (s : State) : Result :=
  shiftOperand .sra .b s

/-- SRA C (R1006). -/
def execCbSraC (s : State) : Result :=
  shiftOperand .sra .c s

/-- SRA D (R1006). -/
def execCbSraD (s : State) : Result :=
  shiftOperand .sra .d s

/-- SRA E (R1006). -/
def execCbSraE (s : State) : Result :=
  shiftOperand .sra .e s

/-- SRA H (R1006). -/
def execCbSraH (s : State) : Result :=
  shiftOperand .sra .h s

/-- SRA L (R1006). -/
def execCbSraL (s : State) : Result :=
  shiftOperand .sra .l s

/-- SRA (HL) (R1006). -/
def execCbSraAtHl (s : State) : Result :=
  shiftOperand .sra .atHl s

/-- SRA A (R1006). -/
def execCbSraA (s : State) : Result :=
  shiftOperand .sra .a s

/-- SWAP B (R1007). -/
def execCbSwapB (s : State) : Result :=
  shiftOperand .swap .b s

/-- SWAP C (R1007). -/
def execCbSwapC (s : State) : Result :=
  shiftOperand .swap .c s

/-- SWAP D (R1007). -/
def execCbSwapD (s : State) : Result :=
  shiftOperand .swap .d s

/-- SWAP E (R1007). -/
def execCbSwapE (s : State) : Result :=
  shiftOperand .swap .e s

/-- SWAP H (R1007). -/
def execCbSwapH (s : State) : Result :=
  shiftOperand .swap .h s

/-- SWAP L (R1007). -/
def execCbSwapL (s : State) : Result :=
  shiftOperand .swap .l s

/-- SWAP (HL) (R1007). -/
def execCbSwapAtHl (s : State) : Result :=
  shiftOperand .swap .atHl s

/-- SWAP A (R1007). -/
def execCbSwapA (s : State) : Result :=
  shiftOperand .swap .a s

/-- SRL B (R1008). -/
def execCbSrlB (s : State) : Result :=
  shiftOperand .srl .b s

/-- SRL C (R1008). -/
def execCbSrlC (s : State) : Result :=
  shiftOperand .srl .c s

/-- SRL D (R1008). -/
def execCbSrlD (s : State) : Result :=
  shiftOperand .srl .d s

/-- SRL E (R1008). -/
def execCbSrlE (s : State) : Result :=
  shiftOperand .srl .e s

/-- SRL H (R1008). -/
def execCbSrlH (s : State) : Result :=
  shiftOperand .srl .h s

/-- SRL L (R1008). -/
def execCbSrlL (s : State) : Result :=
  shiftOperand .srl .l s

/-- SRL (HL) (R1008). -/
def execCbSrlAtHl (s : State) : Result :=
  shiftOperand .srl .atHl s

/-- SRL A (R1008). -/
def execCbSrlA (s : State) : Result :=
  shiftOperand .srl .a s

/-- BIT 0,B (R1009). -/
def execCbBit0B (s : State) : Result :=
  testBit 0 .b s

/-- BIT 0,C (R1009). -/
def execCbBit0C (s : State) : Result :=
  testBit 0 .c s

/-- BIT 0,D (R1009). -/
def execCbBit0D (s : State) : Result :=
  testBit 0 .d s

/-- BIT 0,E (R1009). -/
def execCbBit0E (s : State) : Result :=
  testBit 0 .e s

/-- BIT 0,H (R1009). -/
def execCbBit0H (s : State) : Result :=
  testBit 0 .h s

/-- BIT 0,L (R1009). -/
def execCbBit0L (s : State) : Result :=
  testBit 0 .l s

/-- BIT 0,(HL) (R1009). -/
def execCbBit0AtHl (s : State) : Result :=
  testBit 0 .atHl s

/-- BIT 0,A (R1009). -/
def execCbBit0A (s : State) : Result :=
  testBit 0 .a s

/-- BIT 1,B (R1009). -/
def execCbBit1B (s : State) : Result :=
  testBit 1 .b s

/-- BIT 1,C (R1009). -/
def execCbBit1C (s : State) : Result :=
  testBit 1 .c s

/-- BIT 1,D (R1009). -/
def execCbBit1D (s : State) : Result :=
  testBit 1 .d s

/-- BIT 1,E (R1009). -/
def execCbBit1E (s : State) : Result :=
  testBit 1 .e s

/-- BIT 1,H (R1009). -/
def execCbBit1H (s : State) : Result :=
  testBit 1 .h s

/-- BIT 1,L (R1009). -/
def execCbBit1L (s : State) : Result :=
  testBit 1 .l s

/-- BIT 1,(HL) (R1009). -/
def execCbBit1AtHl (s : State) : Result :=
  testBit 1 .atHl s

/-- BIT 1,A (R1009). -/
def execCbBit1A (s : State) : Result :=
  testBit 1 .a s

/-- BIT 2,B (R1009). -/
def execCbBit2B (s : State) : Result :=
  testBit 2 .b s

/-- BIT 2,C (R1009). -/
def execCbBit2C (s : State) : Result :=
  testBit 2 .c s

/-- BIT 2,D (R1009). -/
def execCbBit2D (s : State) : Result :=
  testBit 2 .d s

/-- BIT 2,E (R1009). -/
def execCbBit2E (s : State) : Result :=
  testBit 2 .e s

/-- BIT 2,H (R1009). -/
def execCbBit2H (s : State) : Result :=
  testBit 2 .h s

/-- BIT 2,L (R1009). -/
def execCbBit2L (s : State) : Result :=
  testBit 2 .l s

/-- BIT 2,(HL) (R1009). -/
def execCbBit2AtHl (s : State) : Result :=
  testBit 2 .atHl s

/-- BIT 2,A (R1009). -/
def execCbBit2A (s : State) : Result :=
  testBit 2 .a s

/-- BIT 3,B (R1009). -/
def execCbBit3B (s : State) : Result :=
  testBit 3 .b s

/-- BIT 3,C (R1009). -/
def execCbBit3C (s : State) : Result :=
  testBit 3 .c s

/-- BIT 3,D (R1009). -/
def execCbBit3D (s : State) : Result :=
  testBit 3 .d s

/-- BIT 3,E (R1009). -/
def execCbBit3E (s : State) : Result :=
  testBit 3 .e s

/-- BIT 3,H (R1009). -/
def execCbBit3H (s : State) : Result :=
  testBit 3 .h s

/-- BIT 3,L (R1009). -/
def execCbBit3L (s : State) : Result :=
  testBit 3 .l s

/-- BIT 3,(HL) (R1009). -/
def execCbBit3AtHl (s : State) : Result :=
  testBit 3 .atHl s

/-- BIT 3,A (R1009). -/
def execCbBit3A (s : State) : Result :=
  testBit 3 .a s

/-- BIT 4,B (R1009). -/
def execCbBit4B (s : State) : Result :=
  testBit 4 .b s

/-- BIT 4,C (R1009). -/
def execCbBit4C (s : State) : Result :=
  testBit 4 .c s

/-- BIT 4,D (R1009). -/
def execCbBit4D (s : State) : Result :=
  testBit 4 .d s

/-- BIT 4,E (R1009). -/
def execCbBit4E (s : State) : Result :=
  testBit 4 .e s

/-- BIT 4,H (R1009). -/
def execCbBit4H (s : State) : Result :=
  testBit 4 .h s

/-- BIT 4,L (R1009). -/
def execCbBit4L (s : State) : Result :=
  testBit 4 .l s

/-- BIT 4,(HL) (R1009). -/
def execCbBit4AtHl (s : State) : Result :=
  testBit 4 .atHl s

/-- BIT 4,A (R1009). -/
def execCbBit4A (s : State) : Result :=
  testBit 4 .a s

/-- BIT 5,B (R1009). -/
def execCbBit5B (s : State) : Result :=
  testBit 5 .b s

/-- BIT 5,C (R1009). -/
def execCbBit5C (s : State) : Result :=
  testBit 5 .c s

/-- BIT 5,D (R1009). -/
def execCbBit5D (s : State) : Result :=
  testBit 5 .d s

/-- BIT 5,E (R1009). -/
def execCbBit5E (s : State) : Result :=
  testBit 5 .e s

/-- BIT 5,H (R1009). -/
def execCbBit5H (s : State) : Result :=
  testBit 5 .h s

/-- BIT 5,L (R1009). -/
def execCbBit5L (s : State) : Result :=
  testBit 5 .l s

/-- BIT 5,(HL) (R1009). -/
def execCbBit5AtHl (s : State) : Result :=
  testBit 5 .atHl s

/-- BIT 5,A (R1009). -/
def execCbBit5A (s : State) : Result :=
  testBit 5 .a s

/-- BIT 6,B (R1009). -/
def execCbBit6B (s : State) : Result :=
  testBit 6 .b s

/-- BIT 6,C (R1009). -/
def execCbBit6C (s : State) : Result :=
  testBit 6 .c s

/-- BIT 6,D (R1009). -/
def execCbBit6D (s : State) : Result :=
  testBit 6 .d s

/-- BIT 6,E (R1009). -/
def execCbBit6E (s : State) : Result :=
  testBit 6 .e s

/-- BIT 6,H (R1009). -/
def execCbBit6H (s : State) : Result :=
  testBit 6 .h s

/-- BIT 6,L (R1009). -/
def execCbBit6L (s : State) : Result :=
  testBit 6 .l s

/-- BIT 6,(HL) (R1009). -/
def execCbBit6AtHl (s : State) : Result :=
  testBit 6 .atHl s

/-- BIT 6,A (R1009). -/
def execCbBit6A (s : State) : Result :=
  testBit 6 .a s

/-- BIT 7,B (R1009). -/
def execCbBit7B (s : State) : Result :=
  testBit 7 .b s

/-- BIT 7,C (R1009). -/
def execCbBit7C (s : State) : Result :=
  testBit 7 .c s

/-- BIT 7,D (R1009). -/
def execCbBit7D (s : State) : Result :=
  testBit 7 .d s

/-- BIT 7,E (R1009). -/
def execCbBit7E (s : State) : Result :=
  testBit 7 .e s

/-- BIT 7,H (R1009). -/
def execCbBit7H (s : State) : Result :=
  testBit 7 .h s

/-- BIT 7,L (R1009). -/
def execCbBit7L (s : State) : Result :=
  testBit 7 .l s

/-- BIT 7,(HL) (R1009). -/
def execCbBit7AtHl (s : State) : Result :=
  testBit 7 .atHl s

/-- BIT 7,A (R1009). -/
def execCbBit7A (s : State) : Result :=
  testBit 7 .a s

/-- RES 0,B (R1010). -/
def execCbRes0B (s : State) : Result :=
  resetBit 0 .b s

/-- RES 0,C (R1010). -/
def execCbRes0C (s : State) : Result :=
  resetBit 0 .c s

/-- RES 0,D (R1010). -/
def execCbRes0D (s : State) : Result :=
  resetBit 0 .d s

/-- RES 0,E (R1010). -/
def execCbRes0E (s : State) : Result :=
  resetBit 0 .e s

/-- RES 0,H (R1010). -/
def execCbRes0H (s : State) : Result :=
  resetBit 0 .h s

/-- RES 0,L (R1010). -/
def execCbRes0L (s : State) : Result :=
  resetBit 0 .l s

/-- RES 0,(HL) (R1010). -/
def execCbRes0AtHl (s : State) : Result :=
  resetBit 0 .atHl s

/-- RES 0,A (R1010). -/
def execCbRes0A (s : State) : Result :=
  resetBit 0 .a s

/-- RES 1,B (R1010). -/
def execCbRes1B (s : State) : Result :=
  resetBit 1 .b s

/-- RES 1,C (R1010). -/
def execCbRes1C (s : State) : Result :=
  resetBit 1 .c s

/-- RES 1,D (R1010). -/
def execCbRes1D (s : State) : Result :=
  resetBit 1 .d s

/-- RES 1,E (R1010). -/
def execCbRes1E (s : State) : Result :=
  resetBit 1 .e s

/-- RES 1,H (R1010). -/
def execCbRes1H (s : State) : Result :=
  resetBit 1 .h s

/-- RES 1,L (R1010). -/
def execCbRes1L (s : State) : Result :=
  resetBit 1 .l s

/-- RES 1,(HL) (R1010). -/
def execCbRes1AtHl (s : State) : Result :=
  resetBit 1 .atHl s

/-- RES 1,A (R1010). -/
def execCbRes1A (s : State) : Result :=
  resetBit 1 .a s

/-- RES 2,B (R1010). -/
def execCbRes2B (s : State) : Result :=
  resetBit 2 .b s

/-- RES 2,C (R1010). -/
def execCbRes2C (s : State) : Result :=
  resetBit 2 .c s

/-- RES 2,D (R1010). -/
def execCbRes2D (s : State) : Result :=
  resetBit 2 .d s

/-- RES 2,E (R1010). -/
def execCbRes2E (s : State) : Result :=
  resetBit 2 .e s

/-- RES 2,H (R1010). -/
def execCbRes2H (s : State) : Result :=
  resetBit 2 .h s

/-- RES 2,L (R1010). -/
def execCbRes2L (s : State) : Result :=
  resetBit 2 .l s

/-- RES 2,(HL) (R1010). -/
def execCbRes2AtHl (s : State) : Result :=
  resetBit 2 .atHl s

/-- RES 2,A (R1010). -/
def execCbRes2A (s : State) : Result :=
  resetBit 2 .a s

/-- RES 3,B (R1010). -/
def execCbRes3B (s : State) : Result :=
  resetBit 3 .b s

/-- RES 3,C (R1010). -/
def execCbRes3C (s : State) : Result :=
  resetBit 3 .c s

/-- RES 3,D (R1010). -/
def execCbRes3D (s : State) : Result :=
  resetBit 3 .d s

/-- RES 3,E (R1010). -/
def execCbRes3E (s : State) : Result :=
  resetBit 3 .e s

/-- RES 3,H (R1010). -/
def execCbRes3H (s : State) : Result :=
  resetBit 3 .h s

/-- RES 3,L (R1010). -/
def execCbRes3L (s : State) : Result :=
  resetBit 3 .l s

/-- RES 3,(HL) (R1010). -/
def execCbRes3AtHl (s : State) : Result :=
  resetBit 3 .atHl s

/-- RES 3,A (R1010). -/
def execCbRes3A (s : State) : Result :=
  resetBit 3 .a s

/-- RES 4,B (R1010). -/
def execCbRes4B (s : State) : Result :=
  resetBit 4 .b s

/-- RES 4,C (R1010). -/
def execCbRes4C (s : State) : Result :=
  resetBit 4 .c s

/-- RES 4,D (R1010). -/
def execCbRes4D (s : State) : Result :=
  resetBit 4 .d s

/-- RES 4,E (R1010). -/
def execCbRes4E (s : State) : Result :=
  resetBit 4 .e s

/-- RES 4,H (R1010). -/
def execCbRes4H (s : State) : Result :=
  resetBit 4 .h s

/-- RES 4,L (R1010). -/
def execCbRes4L (s : State) : Result :=
  resetBit 4 .l s

/-- RES 4,(HL) (R1010). -/
def execCbRes4AtHl (s : State) : Result :=
  resetBit 4 .atHl s

/-- RES 4,A (R1010). -/
def execCbRes4A (s : State) : Result :=
  resetBit 4 .a s

/-- RES 5,B (R1010). -/
def execCbRes5B (s : State) : Result :=
  resetBit 5 .b s

/-- RES 5,C (R1010). -/
def execCbRes5C (s : State) : Result :=
  resetBit 5 .c s

/-- RES 5,D (R1010). -/
def execCbRes5D (s : State) : Result :=
  resetBit 5 .d s

/-- RES 5,E (R1010). -/
def execCbRes5E (s : State) : Result :=
  resetBit 5 .e s

/-- RES 5,H (R1010). -/
def execCbRes5H (s : State) : Result :=
  resetBit 5 .h s

/-- RES 5,L (R1010). -/
def execCbRes5L (s : State) : Result :=
  resetBit 5 .l s

/-- RES 5,(HL) (R1010). -/
def execCbRes5AtHl (s : State) : Result :=
  resetBit 5 .atHl s

/-- RES 5,A (R1010). -/
def execCbRes5A (s : State) : Result :=
  resetBit 5 .a s

/-- RES 6,B (R1010). -/
def execCbRes6B (s : State) : Result :=
  resetBit 6 .b s

/-- RES 6,C (R1010). -/
def execCbRes6C (s : State) : Result :=
  resetBit 6 .c s

/-- RES 6,D (R1010). -/
def execCbRes6D (s : State) : Result :=
  resetBit 6 .d s

/-- RES 6,E (R1010). -/
def execCbRes6E (s : State) : Result :=
  resetBit 6 .e s

/-- RES 6,H (R1010). -/
def execCbRes6H (s : State) : Result :=
  resetBit 6 .h s

/-- RES 6,L (R1010). -/
def execCbRes6L (s : State) : Result :=
  resetBit 6 .l s

/-- RES 6,(HL) (R1010). -/
def execCbRes6AtHl (s : State) : Result :=
  resetBit 6 .atHl s

/-- RES 6,A (R1010). -/
def execCbRes6A (s : State) : Result :=
  resetBit 6 .a s

/-- RES 7,B (R1010). -/
def execCbRes7B (s : State) : Result :=
  resetBit 7 .b s

/-- RES 7,C (R1010). -/
def execCbRes7C (s : State) : Result :=
  resetBit 7 .c s

/-- RES 7,D (R1010). -/
def execCbRes7D (s : State) : Result :=
  resetBit 7 .d s

/-- RES 7,E (R1010). -/
def execCbRes7E (s : State) : Result :=
  resetBit 7 .e s

/-- RES 7,H (R1010). -/
def execCbRes7H (s : State) : Result :=
  resetBit 7 .h s

/-- RES 7,L (R1010). -/
def execCbRes7L (s : State) : Result :=
  resetBit 7 .l s

/-- RES 7,(HL) (R1010). -/
def execCbRes7AtHl (s : State) : Result :=
  resetBit 7 .atHl s

/-- RES 7,A (R1010). -/
def execCbRes7A (s : State) : Result :=
  resetBit 7 .a s

/-- SET 0,B (R1011). -/
def execCbSet0B (s : State) : Result :=
  setBit 0 .b s

/-- SET 0,C (R1011). -/
def execCbSet0C (s : State) : Result :=
  setBit 0 .c s

/-- SET 0,D (R1011). -/
def execCbSet0D (s : State) : Result :=
  setBit 0 .d s

/-- SET 0,E (R1011). -/
def execCbSet0E (s : State) : Result :=
  setBit 0 .e s

/-- SET 0,H (R1011). -/
def execCbSet0H (s : State) : Result :=
  setBit 0 .h s

/-- SET 0,L (R1011). -/
def execCbSet0L (s : State) : Result :=
  setBit 0 .l s

/-- SET 0,(HL) (R1011). -/
def execCbSet0AtHl (s : State) : Result :=
  setBit 0 .atHl s

/-- SET 0,A (R1011). -/
def execCbSet0A (s : State) : Result :=
  setBit 0 .a s

/-- SET 1,B (R1011). -/
def execCbSet1B (s : State) : Result :=
  setBit 1 .b s

/-- SET 1,C (R1011). -/
def execCbSet1C (s : State) : Result :=
  setBit 1 .c s

/-- SET 1,D (R1011). -/
def execCbSet1D (s : State) : Result :=
  setBit 1 .d s

/-- SET 1,E (R1011). -/
def execCbSet1E (s : State) : Result :=
  setBit 1 .e s

/-- SET 1,H (R1011). -/
def execCbSet1H (s : State) : Result :=
  setBit 1 .h s

/-- SET 1,L (R1011). -/
def execCbSet1L (s : State) : Result :=
  setBit 1 .l s

/-- SET 1,(HL) (R1011). -/
def execCbSet1AtHl (s : State) : Result :=
  setBit 1 .atHl s

/-- SET 1,A (R1011). -/
def execCbSet1A (s : State) : Result :=
  setBit 1 .a s

/-- SET 2,B (R1011). -/
def execCbSet2B (s : State) : Result :=
  setBit 2 .b s

/-- SET 2,C (R1011). -/
def execCbSet2C (s : State) : Result :=
  setBit 2 .c s

/-- SET 2,D (R1011). -/
def execCbSet2D (s : State) : Result :=
  setBit 2 .d s

/-- SET 2,E (R1011). -/
def execCbSet2E (s : State) : Result :=
  setBit 2 .e s

/-- SET 2,H (R1011). -/
def execCbSet2H (s : State) : Result :=
  setBit 2 .h s

/-- SET 2,L (R1011). -/
def execCbSet2L (s : State) : Result :=
  setBit 2 .l s

/-- SET 2,(HL) (R1011). -/
def execCbSet2AtHl (s : State) : Result :=
  setBit 2 .atHl s

/-- SET 2,A (R1011). -/
def execCbSet2A (s : State) : Result :=
  setBit 2 .a s

/-- SET 3,B (R1011). -/
def execCbSet3B (s : State) : Result :=
  setBit 3 .b s

/-- SET 3,C (R1011). -/
def execCbSet3C (s : State) : Result :=
  setBit 3 .c s

/-- SET 3,D (R1011). -/
def execCbSet3D (s : State) : Result :=
  setBit 3 .d s

/-- SET 3,E (R1011). -/
def execCbSet3E (s : State) : Result :=
  setBit 3 .e s

/-- SET 3,H (R1011). -/
def execCbSet3H (s : State) : Result :=
  setBit 3 .h s

/-- SET 3,L (R1011). -/
def execCbSet3L (s : State) : Result :=
  setBit 3 .l s

/-- SET 3,(HL) (R1011). -/
def execCbSet3AtHl (s : State) : Result :=
  setBit 3 .atHl s

/-- SET 3,A (R1011). -/
def execCbSet3A (s : State) : Result :=
  setBit 3 .a s

/-- SET 4,B (R1011). -/
def execCbSet4B (s : State) : Result :=
  setBit 4 .b s

/-- SET 4,C (R1011). -/
def execCbSet4C (s : State) : Result :=
  setBit 4 .c s

/-- SET 4,D (R1011). -/
def execCbSet4D (s : State) : Result :=
  setBit 4 .d s

/-- SET 4,E (R1011). -/
def execCbSet4E (s : State) : Result :=
  setBit 4 .e s

/-- SET 4,H (R1011). -/
def execCbSet4H (s : State) : Result :=
  setBit 4 .h s

/-- SET 4,L (R1011). -/
def execCbSet4L (s : State) : Result :=
  setBit 4 .l s

/-- SET 4,(HL) (R1011). -/
def execCbSet4AtHl (s : State) : Result :=
  setBit 4 .atHl s

/-- SET 4,A (R1011). -/
def execCbSet4A (s : State) : Result :=
  setBit 4 .a s

/-- SET 5,B (R1011). -/
def execCbSet5B (s : State) : Result :=
  setBit 5 .b s

/-- SET 5,C (R1011). -/
def execCbSet5C (s : State) : Result :=
  setBit 5 .c s

/-- SET 5,D (R1011). -/
def execCbSet5D (s : State) : Result :=
  setBit 5 .d s

/-- SET 5,E (R1011). -/
def execCbSet5E (s : State) : Result :=
  setBit 5 .e s

/-- SET 5,H (R1011). -/
def execCbSet5H (s : State) : Result :=
  setBit 5 .h s

/-- SET 5,L (R1011). -/
def execCbSet5L (s : State) : Result :=
  setBit 5 .l s

/-- SET 5,(HL) (R1011). -/
def execCbSet5AtHl (s : State) : Result :=
  setBit 5 .atHl s

/-- SET 5,A (R1011). -/
def execCbSet5A (s : State) : Result :=
  setBit 5 .a s

/-- SET 6,B (R1011). -/
def execCbSet6B (s : State) : Result :=
  setBit 6 .b s

/-- SET 6,C (R1011). -/
def execCbSet6C (s : State) : Result :=
  setBit 6 .c s

/-- SET 6,D (R1011). -/
def execCbSet6D (s : State) : Result :=
  setBit 6 .d s

/-- SET 6,E (R1011). -/
def execCbSet6E (s : State) : Result :=
  setBit 6 .e s

/-- SET 6,H (R1011). -/
def execCbSet6H (s : State) : Result :=
  setBit 6 .h s

/-- SET 6,L (R1011). -/
def execCbSet6L (s : State) : Result :=
  setBit 6 .l s

/-- SET 6,(HL) (R1011). -/
def execCbSet6AtHl (s : State) : Result :=
  setBit 6 .atHl s

/-- SET 6,A (R1011). -/
def execCbSet6A (s : State) : Result :=
  setBit 6 .a s

/-- SET 7,B (R1011). -/
def execCbSet7B (s : State) : Result :=
  setBit 7 .b s

/-- SET 7,C (R1011). -/
def execCbSet7C (s : State) : Result :=
  setBit 7 .c s

/-- SET 7,D (R1011). -/
def execCbSet7D (s : State) : Result :=
  setBit 7 .d s

/-- SET 7,E (R1011). -/
def execCbSet7E (s : State) : Result :=
  setBit 7 .e s

/-- SET 7,H (R1011). -/
def execCbSet7H (s : State) : Result :=
  setBit 7 .h s

/-- SET 7,L (R1011). -/
def execCbSet7L (s : State) : Result :=
  setBit 7 .l s

/-- SET 7,(HL) (R1011). -/
def execCbSet7AtHl (s : State) : Result :=
  setBit 7 .atHl s

/-- SET 7,A (R1011). -/
def execCbSet7A (s : State) : Result :=
  setBit 7 .a s

end Sys2Proof.Machine
end

