-- ==== Sys2Proof/Machine/ControlTransfer.lean ====
section
/-! DEFINITION. Control transfer (R1100 to R1111). Every operand byte has been fetched before the condition is tested, so PC is the
address of the next instruction (R1100). No flag is written. -/

namespace Sys2Proof.Machine

/-- R1102: JP cc,n16. -/
def jumpIf (cc : Cond) (target : Word) (s : State) : Result :=
  .next (if condHolds cc s.f then { s with pc := target } else s)

/-- R1105: JR cc,e8. -/
def jumpRelativeIf (cc : Cond) (e : Byte) (s : State) : Result :=
  .next (if condHolds cc s.f then s.jumpRelative e else s)

/-- R1107: CALL cc,n16. Not taken makes no stack access. -/
def callIf (cc : Cond) (target : Word) (s : State) : Result :=
  .next (if condHolds cc s.f then s.callTo target else s)

/-- R1110: RET cc. Not taken makes no bus access. -/
def returnIf (cc : Cond) (s : State) : Result :=
  .next (if condHolds cc s.f then s.returnTo else s)

/-- JR e8 (R1104). -/
def execJrE8 (e : Byte) (s : State) : Result :=
  .next (s.jumpRelative e)

/-- JR NZ,e8 (R1105). -/
def execJrNzE8 (e : Byte) (s : State) : Result :=
  jumpRelativeIf .nz e s

/-- JR Z,e8 (R1105). -/
def execJrZE8 (e : Byte) (s : State) : Result :=
  jumpRelativeIf .z e s

/-- JR NC,e8 (R1105). -/
def execJrNcE8 (e : Byte) (s : State) : Result :=
  jumpRelativeIf .nc e s

/-- JR C,e8 (R1105). -/
def execJrCE8 (e : Byte) (s : State) : Result :=
  jumpRelativeIf .c e s

/-- JP NZ,n16 (R1102). -/
def execJpNzN16 (nn : Word) (s : State) : Result :=
  jumpIf .nz nn s

/-- JP n16 (R1101). -/
def execJpN16 (nn : Word) (s : State) : Result :=
  .next { s with pc := nn }

/-- CALL NZ,n16 (R1107). -/
def execCallNzN16 (nn : Word) (s : State) : Result :=
  callIf .nz nn s

/-- JP Z,n16 (R1102). -/
def execJpZN16 (nn : Word) (s : State) : Result :=
  jumpIf .z nn s

/-- CALL Z,n16 (R1107). -/
def execCallZN16 (nn : Word) (s : State) : Result :=
  callIf .z nn s

/-- CALL n16 (R1106). -/
def execCallN16 (nn : Word) (s : State) : Result :=
  .next (s.callTo nn)

/-- JP NC,n16 (R1102). -/
def execJpNcN16 (nn : Word) (s : State) : Result :=
  jumpIf .nc nn s

/-- CALL NC,n16 (R1107). -/
def execCallNcN16 (nn : Word) (s : State) : Result :=
  callIf .nc nn s

/-- JP C,n16 (R1102). -/
def execJpCN16 (nn : Word) (s : State) : Result :=
  jumpIf .c nn s

/-- CALL C,n16 (R1107). -/
def execCallCN16 (nn : Word) (s : State) : Result :=
  callIf .c nn s

/-- RET NZ (R1110). -/
def execRetNz (s : State) : Result :=
  returnIf .nz s

/-- RST 0x00 (R1111). -/
def execRst00 (s : State) : Result :=
  .next (s.callTo 0x0000#16)

/-- RET Z (R1110). -/
def execRetZ (s : State) : Result :=
  returnIf .z s

/-- RET (R1108). -/
def execRet (s : State) : Result :=
  .next s.returnTo

/-- RST 0x08 (R1111). -/
def execRst08 (s : State) : Result :=
  .next (s.callTo 0x0008#16)

/-- RET NC (R1110). -/
def execRetNc (s : State) : Result :=
  returnIf .nc s

/-- RST 0x10 (R1111). -/
def execRst10 (s : State) : Result :=
  .next (s.callTo 0x0010#16)

/-- RET C (R1110). -/
def execRetC (s : State) : Result :=
  returnIf .c s

/-- RETI (R1109). -/
def execReti (s : State) : Result :=
  .next s.returnFromInterrupt

/-- RST 0x18 (R1111). -/
def execRst18 (s : State) : Result :=
  .next (s.callTo 0x0018#16)

/-- RST 0x20 (R1111). -/
def execRst20 (s : State) : Result :=
  .next (s.callTo 0x0020#16)

/-- JP HL (R1103). -/
def execJpHl (s : State) : Result :=
  .next { s with pc := s.hl }

/-- RST 0x28 (R1111). -/
def execRst28 (s : State) : Result :=
  .next (s.callTo 0x0028#16)

/-- RST 0x30 (R1111). -/
def execRst30 (s : State) : Result :=
  .next (s.callTo 0x0030#16)

/-- RST 0x38 (R1111). -/
def execRst38 (s : State) : Result :=
  .next (s.callTo 0x0038#16)

end Sys2Proof.Machine
end

