-- ==== Sys2Proof/Machine/CpuControl.lean ====
section
/-! DEFINITION. CPU control and the illegal opcodes (R900 to R905). None writes a flag. PC is past the instruction already
(R300), STOP's ignored byte included. -/

namespace Sys2Proof.Machine

/-- STOP (R902). -/
def execStop (_ignored : Byte) (s : State) : Result :=
  .next { s with stopped := true }

/-- NOP (R900). -/
def execNop (s : State) : Result :=
  .next s

/-- HALT (R901). -/
def execHalt (s : State) : Result :=
  .next { s with halted := true }

/-- Illegal opcode 0xD3 (R905). -/
def execIllegalD3 (s : State) : Result :=
  .next s.raiseIllegalOpcode

/-- Illegal opcode 0xDB (R905). -/
def execIllegalDB (s : State) : Result :=
  .next s.raiseIllegalOpcode

/-- Illegal opcode 0xDD (R905). -/
def execIllegalDD (s : State) : Result :=
  .next s.raiseIllegalOpcode

/-- Illegal opcode 0xE3 (R905). -/
def execIllegalE3 (s : State) : Result :=
  .next s.raiseIllegalOpcode

/-- Illegal opcode 0xE4 (R905). -/
def execIllegalE4 (s : State) : Result :=
  .next s.raiseIllegalOpcode

/-- Illegal opcode 0xEB (R905). -/
def execIllegalEB (s : State) : Result :=
  .next s.raiseIllegalOpcode

/-- Illegal opcode 0xEC (R905). -/
def execIllegalEC (s : State) : Result :=
  .next s.raiseIllegalOpcode

/-- Illegal opcode 0xED (R905). -/
def execIllegalED (s : State) : Result :=
  .next s.raiseIllegalOpcode

/-- DI (R903). -/
def execDi (s : State) : Result :=
  .next { s with ime := false }

/-- Illegal opcode 0xF4 (R905). -/
def execIllegalF4 (s : State) : Result :=
  .next s.raiseIllegalOpcode

/-- EI (R904). -/
def execEi (s : State) : Result :=
  .next { s with ime := true }

/-- Illegal opcode 0xFC (R905). -/
def execIllegalFC (s : State) : Result :=
  .next s.raiseIllegalOpcode

/-- Illegal opcode 0xFD (R905). -/
def execIllegalFD (s : State) : Result :=
  .next s.raiseIllegalOpcode

end Sys2Proof.Machine
end

