-- ==== Sys2Proof/Machine/Loads16.lean ====
section
/-! DEFINITION. 16-bit loads and the stack (R502 to R508). No flag is written but by POP AF, and nothing is raised. -/

namespace Sys2Proof.Machine

/-- R505, R506: push a pair; AF's low byte is F as a byte (R101). -/
def pushPair (q : Rp2) (s : State) : Result :=
  .next (s.push16 (s.rp2 q))

/-- R507, R508: pop into a pair; AF's low byte goes through the F write of R101. -/
def popPair (q : Rp2) (s : State) : Result :=
  let r := s.pop16
  .next (r.2.setRp2 q r.1)

/-- LD BC,n16 (R502). -/
def execLdBcN16 (nn : Word) (s : State) : Result :=
  .next (s.setRp .bc nn)

/-- LD (n16),SP (R503). -/
def execLdAtN16Sp (nn : Word) (s : State) : Result :=
  .next (s.busWrite16 nn s.sp)

/-- LD DE,n16 (R502). -/
def execLdDeN16 (nn : Word) (s : State) : Result :=
  .next (s.setRp .de nn)

/-- LD HL,n16 (R502). -/
def execLdHlN16 (nn : Word) (s : State) : Result :=
  .next (s.setRp .hl nn)

/-- LD SP,n16 (R502). -/
def execLdSpN16 (nn : Word) (s : State) : Result :=
  .next (s.setRp .sp nn)

/-- POP BC (R507). -/
def execPopBc (s : State) : Result :=
  popPair .bc s

/-- PUSH BC (R505). -/
def execPushBc (s : State) : Result :=
  pushPair .bc s

/-- POP DE (R507). -/
def execPopDe (s : State) : Result :=
  popPair .de s

/-- PUSH DE (R505). -/
def execPushDe (s : State) : Result :=
  pushPair .de s

/-- POP HL (R507). -/
def execPopHl (s : State) : Result :=
  popPair .hl s

/-- PUSH HL (R505). -/
def execPushHl (s : State) : Result :=
  pushPair .hl s

/-- POP AF (R508). -/
def execPopAf (s : State) : Result :=
  popPair .af s

/-- PUSH AF (R506). -/
def execPushAf (s : State) : Result :=
  pushPair .af s

/-- LD SP,HL (R504). -/
def execLdSpHl (s : State) : Result :=
  .next { s with sp := s.hl }

end Sys2Proof.Machine
end

