-- ==== Sys2Proof/Machine/Loads8.lean ====
section
/-! DEFINITION. 8-bit loads (R400 to R418). Every meaning starts with PC past the instruction (R300), writes no flag and raises
nothing. -/

namespace Sys2Proof.Machine

/-- R400 to R402: copy one `r8` operand to another. Both locations are resolved before the read, so LD H,(HL) reads at
the address HL held before the write (R401). -/
def loadFrom (dest m : R8) (s : State) : Result :=
  let src := s.resolve m
  let dst := s.resolve dest
  .next ((s.afterLocRead src).writeLoc dst (s.locValue src))

/-- R403, R404: write an immediate to an `r8` operand. -/
def loadByte (dest : R8) (n : Byte) (s : State) : Result :=
  .next (s.writeLoc (s.resolve dest) n)

/-- R405 to R408: store A at the address of an indirect pair, then the pair's side effect (R113). -/
def storeIndirect (p : Ind) (s : State) : Result :=
  .next ((s.busWrite (s.indAddr p) s.a).indStep p)

/-- R409 to R412: load A from the address of an indirect pair, then the pair's side effect (R113). -/
def loadIndirect (p : Ind) (s : State) : Result :=
  let addr := s.indAddr p
  .next ({ s.afterRead addr with a := s.answer addr }.indStep p)

/-- R413, R415, R417: store A at an address. -/
def storeAbsolute (addr : Word) (s : State) : Result :=
  .next (s.busWrite addr s.a)

/-- R414, R416, R418: load A from an address. -/
def loadAbsolute (addr : Word) (s : State) : Result :=
  .next { s.afterRead addr with a := s.answer addr }

/-- LD B,n8 (R403). -/
def execLdBN8 (n : Byte) (s : State) : Result :=
  loadByte .b n s

/-- LD C,n8 (R403). -/
def execLdCN8 (n : Byte) (s : State) : Result :=
  loadByte .c n s

/-- LD D,n8 (R403). -/
def execLdDN8 (n : Byte) (s : State) : Result :=
  loadByte .d n s

/-- LD E,n8 (R403). -/
def execLdEN8 (n : Byte) (s : State) : Result :=
  loadByte .e n s

/-- LD H,n8 (R403). -/
def execLdHN8 (n : Byte) (s : State) : Result :=
  loadByte .h n s

/-- LD L,n8 (R403). -/
def execLdLN8 (n : Byte) (s : State) : Result :=
  loadByte .l n s

/-- LD (HL),n8 (R404). -/
def execLdAtHlN8 (n : Byte) (s : State) : Result :=
  loadByte .atHl n s

/-- LD A,n8 (R403). -/
def execLdAN8 (n : Byte) (s : State) : Result :=
  loadByte .a n s

/-- LDH (n8),A (R415). -/
def execLdhAtN8A (n : Byte) (s : State) : Result :=
  storeAbsolute (highPage n) s

/-- LD (n16),A (R413). -/
def execLdAtN16A (nn : Word) (s : State) : Result :=
  storeAbsolute nn s

/-- LDH A,(n8) (R416). -/
def execLdhAAtN8 (n : Byte) (s : State) : Result :=
  loadAbsolute (highPage n) s

/-- LD A,(n16) (R414). -/
def execLdAAtN16 (nn : Word) (s : State) : Result :=
  loadAbsolute nn s

/-- LD (BC),A (R405). -/
def execLdAtBcA (s : State) : Result :=
  storeIndirect .bc s

/-- LD A,(BC) (R409). -/
def execLdAAtBc (s : State) : Result :=
  loadIndirect .bc s

/-- LD (DE),A (R406). -/
def execLdAtDeA (s : State) : Result :=
  storeIndirect .de s

/-- LD A,(DE) (R410). -/
def execLdAAtDe (s : State) : Result :=
  loadIndirect .de s

/-- LD (HL+),A (R407). -/
def execLdAtHlIncA (s : State) : Result :=
  storeIndirect .hlInc s

/-- LD A,(HL+) (R411). -/
def execLdAAtHlInc (s : State) : Result :=
  loadIndirect .hlInc s

/-- LD (HL-),A (R408). -/
def execLdAtHlDecA (s : State) : Result :=
  storeIndirect .hlDec s

/-- LD A,(HL-) (R412). -/
def execLdAAtHlDec (s : State) : Result :=
  loadIndirect .hlDec s

/-- LD B,B (R400). -/
def execLdBB (s : State) : Result :=
  loadFrom .b .b s

/-- LD B,C (R400). -/
def execLdBC (s : State) : Result :=
  loadFrom .b .c s

/-- LD B,D (R400). -/
def execLdBD (s : State) : Result :=
  loadFrom .b .d s

/-- LD B,E (R400). -/
def execLdBE (s : State) : Result :=
  loadFrom .b .e s

/-- LD B,H (R400). -/
def execLdBH (s : State) : Result :=
  loadFrom .b .h s

/-- LD B,L (R400). -/
def execLdBL (s : State) : Result :=
  loadFrom .b .l s

/-- LD B,(HL) (R401). -/
def execLdBAtHl (s : State) : Result :=
  loadFrom .b .atHl s

/-- LD B,A (R400). -/
def execLdBA (s : State) : Result :=
  loadFrom .b .a s

/-- LD C,B (R400). -/
def execLdCB (s : State) : Result :=
  loadFrom .c .b s

/-- LD C,C (R400). -/
def execLdCC (s : State) : Result :=
  loadFrom .c .c s

/-- LD C,D (R400). -/
def execLdCD (s : State) : Result :=
  loadFrom .c .d s

/-- LD C,E (R400). -/
def execLdCE (s : State) : Result :=
  loadFrom .c .e s

/-- LD C,H (R400). -/
def execLdCH (s : State) : Result :=
  loadFrom .c .h s

/-- LD C,L (R400). -/
def execLdCL (s : State) : Result :=
  loadFrom .c .l s

/-- LD C,(HL) (R401). -/
def execLdCAtHl (s : State) : Result :=
  loadFrom .c .atHl s

/-- LD C,A (R400). -/
def execLdCA (s : State) : Result :=
  loadFrom .c .a s

/-- LD D,B (R400). -/
def execLdDB (s : State) : Result :=
  loadFrom .d .b s

/-- LD D,C (R400). -/
def execLdDC (s : State) : Result :=
  loadFrom .d .c s

/-- LD D,D (R400). -/
def execLdDD (s : State) : Result :=
  loadFrom .d .d s

/-- LD D,E (R400). -/
def execLdDE (s : State) : Result :=
  loadFrom .d .e s

/-- LD D,H (R400). -/
def execLdDH (s : State) : Result :=
  loadFrom .d .h s

/-- LD D,L (R400). -/
def execLdDL (s : State) : Result :=
  loadFrom .d .l s

/-- LD D,(HL) (R401). -/
def execLdDAtHl (s : State) : Result :=
  loadFrom .d .atHl s

/-- LD D,A (R400). -/
def execLdDA (s : State) : Result :=
  loadFrom .d .a s

/-- LD E,B (R400). -/
def execLdEB (s : State) : Result :=
  loadFrom .e .b s

/-- LD E,C (R400). -/
def execLdEC (s : State) : Result :=
  loadFrom .e .c s

/-- LD E,D (R400). -/
def execLdED (s : State) : Result :=
  loadFrom .e .d s

/-- LD E,E (R400). -/
def execLdEE (s : State) : Result :=
  loadFrom .e .e s

/-- LD E,H (R400). -/
def execLdEH (s : State) : Result :=
  loadFrom .e .h s

/-- LD E,L (R400). -/
def execLdEL (s : State) : Result :=
  loadFrom .e .l s

/-- LD E,(HL) (R401). -/
def execLdEAtHl (s : State) : Result :=
  loadFrom .e .atHl s

/-- LD E,A (R400). -/
def execLdEA (s : State) : Result :=
  loadFrom .e .a s

/-- LD H,B (R400). -/
def execLdHB (s : State) : Result :=
  loadFrom .h .b s

/-- LD H,C (R400). -/
def execLdHC (s : State) : Result :=
  loadFrom .h .c s

/-- LD H,D (R400). -/
def execLdHD (s : State) : Result :=
  loadFrom .h .d s

/-- LD H,E (R400). -/
def execLdHE (s : State) : Result :=
  loadFrom .h .e s

/-- LD H,H (R400). -/
def execLdHH (s : State) : Result :=
  loadFrom .h .h s

/-- LD H,L (R400). -/
def execLdHL (s : State) : Result :=
  loadFrom .h .l s

/-- LD H,(HL) (R401). -/
def execLdHAtHl (s : State) : Result :=
  loadFrom .h .atHl s

/-- LD H,A (R400). -/
def execLdHA (s : State) : Result :=
  loadFrom .h .a s

/-- LD L,B (R400). -/
def execLdLB (s : State) : Result :=
  loadFrom .l .b s

/-- LD L,C (R400). -/
def execLdLC (s : State) : Result :=
  loadFrom .l .c s

/-- LD L,D (R400). -/
def execLdLD (s : State) : Result :=
  loadFrom .l .d s

/-- LD L,E (R400). -/
def execLdLE (s : State) : Result :=
  loadFrom .l .e s

/-- LD L,H (R400). -/
def execLdLH (s : State) : Result :=
  loadFrom .l .h s

/-- LD L,L (R400). -/
def execLdLL (s : State) : Result :=
  loadFrom .l .l s

/-- LD L,(HL) (R401). -/
def execLdLAtHl (s : State) : Result :=
  loadFrom .l .atHl s

/-- LD L,A (R400). -/
def execLdLA (s : State) : Result :=
  loadFrom .l .a s

/-- LD (HL),B (R402). -/
def execLdAtHlB (s : State) : Result :=
  loadFrom .atHl .b s

/-- LD (HL),C (R402). -/
def execLdAtHlC (s : State) : Result :=
  loadFrom .atHl .c s

/-- LD (HL),D (R402). -/
def execLdAtHlD (s : State) : Result :=
  loadFrom .atHl .d s

/-- LD (HL),E (R402). -/
def execLdAtHlE (s : State) : Result :=
  loadFrom .atHl .e s

/-- LD (HL),H (R402). -/
def execLdAtHlH (s : State) : Result :=
  loadFrom .atHl .h s

/-- LD (HL),L (R402). -/
def execLdAtHlL (s : State) : Result :=
  loadFrom .atHl .l s

/-- LD (HL),A (R402). -/
def execLdAtHlA (s : State) : Result :=
  loadFrom .atHl .a s

/-- LD A,B (R400). -/
def execLdAB (s : State) : Result :=
  loadFrom .a .b s

/-- LD A,C (R400). -/
def execLdAC (s : State) : Result :=
  loadFrom .a .c s

/-- LD A,D (R400). -/
def execLdAD (s : State) : Result :=
  loadFrom .a .d s

/-- LD A,E (R400). -/
def execLdAE (s : State) : Result :=
  loadFrom .a .e s

/-- LD A,H (R400). -/
def execLdAH (s : State) : Result :=
  loadFrom .a .h s

/-- LD A,L (R400). -/
def execLdAL (s : State) : Result :=
  loadFrom .a .l s

/-- LD A,(HL) (R401). -/
def execLdAAtHl (s : State) : Result :=
  loadFrom .a .atHl s

/-- LD A,A (R400). -/
def execLdAA (s : State) : Result :=
  loadFrom .a .a s

/-- LD (C),A (R417). -/
def execLdAtCA (s : State) : Result :=
  storeAbsolute (highPage s.c) s

/-- LD A,(C) (R418). -/
def execLdAAtC (s : State) : Result :=
  loadAbsolute (highPage s.c) s

end Sys2Proof.Machine
end

