-- ==== Sys2Proof/Machine/Dispatch.lean ====
section
/-! DEFINITION. The instruction semantics table (R5): one arm per constructor of `Instr`, each one call of its meaning. -/

namespace Sys2Proof.Machine

def exec (i : Instr) (s : State) : Host.Outcome State Fault Refusal :=
  match i with
  | .ldBcN16 nn => Sys2Proof.Machine.execLdBcN16 nn s
  | .ldBN8 n => Sys2Proof.Machine.execLdBN8 n s
  | .ldAtN16Sp nn => Sys2Proof.Machine.execLdAtN16Sp nn s
  | .ldCN8 n => Sys2Proof.Machine.execLdCN8 n s
  | .stop ignored => Sys2Proof.Machine.execStop ignored s
  | .ldDeN16 nn => Sys2Proof.Machine.execLdDeN16 nn s
  | .ldDN8 n => Sys2Proof.Machine.execLdDN8 n s
  | .jrE8 e => Sys2Proof.Machine.execJrE8 e s
  | .ldEN8 n => Sys2Proof.Machine.execLdEN8 n s
  | .jrNzE8 e => Sys2Proof.Machine.execJrNzE8 e s
  | .ldHlN16 nn => Sys2Proof.Machine.execLdHlN16 nn s
  | .ldHN8 n => Sys2Proof.Machine.execLdHN8 n s
  | .jrZE8 e => Sys2Proof.Machine.execJrZE8 e s
  | .ldLN8 n => Sys2Proof.Machine.execLdLN8 n s
  | .jrNcE8 e => Sys2Proof.Machine.execJrNcE8 e s
  | .ldSpN16 nn => Sys2Proof.Machine.execLdSpN16 nn s
  | .ldAtHlN8 n => Sys2Proof.Machine.execLdAtHlN8 n s
  | .jrCE8 e => Sys2Proof.Machine.execJrCE8 e s
  | .ldAN8 n => Sys2Proof.Machine.execLdAN8 n s
  | .jpNzN16 nn => Sys2Proof.Machine.execJpNzN16 nn s
  | .jpN16 nn => Sys2Proof.Machine.execJpN16 nn s
  | .callNzN16 nn => Sys2Proof.Machine.execCallNzN16 nn s
  | .addAN8 n => Sys2Proof.Machine.execAddAN8 n s
  | .jpZN16 nn => Sys2Proof.Machine.execJpZN16 nn s
  | .callZN16 nn => Sys2Proof.Machine.execCallZN16 nn s
  | .callN16 nn => Sys2Proof.Machine.execCallN16 nn s
  | .adcAN8 n => Sys2Proof.Machine.execAdcAN8 n s
  | .jpNcN16 nn => Sys2Proof.Machine.execJpNcN16 nn s
  | .callNcN16 nn => Sys2Proof.Machine.execCallNcN16 nn s
  | .subN8 n => Sys2Proof.Machine.execSubN8 n s
  | .jpCN16 nn => Sys2Proof.Machine.execJpCN16 nn s
  | .callCN16 nn => Sys2Proof.Machine.execCallCN16 nn s
  | .sbcAN8 n => Sys2Proof.Machine.execSbcAN8 n s
  | .ldhAtN8A n => Sys2Proof.Machine.execLdhAtN8A n s
  | .andN8 n => Sys2Proof.Machine.execAndN8 n s
  | .addSpE8 e => Sys2Proof.Machine.execAddSpE8 e s
  | .ldAtN16A nn => Sys2Proof.Machine.execLdAtN16A nn s
  | .xorN8 n => Sys2Proof.Machine.execXorN8 n s
  | .ldhAAtN8 n => Sys2Proof.Machine.execLdhAAtN8 n s
  | .orN8 n => Sys2Proof.Machine.execOrN8 n s
  | .ldHlSpE8 e => Sys2Proof.Machine.execLdHlSpE8 e s
  | .ldAAtN16 nn => Sys2Proof.Machine.execLdAAtN16 nn s
  | .cpN8 n => Sys2Proof.Machine.execCpN8 n s
  | .nop => Sys2Proof.Machine.execNop s
  | .ldAtBcA => Sys2Proof.Machine.execLdAtBcA s
  | .incBc => Sys2Proof.Machine.execIncBc s
  | .incB => Sys2Proof.Machine.execIncB s
  | .decB => Sys2Proof.Machine.execDecB s
  | .rlca => Sys2Proof.Machine.execRlca s
  | .addHlBc => Sys2Proof.Machine.execAddHlBc s
  | .ldAAtBc => Sys2Proof.Machine.execLdAAtBc s
  | .decBc => Sys2Proof.Machine.execDecBc s
  | .incC => Sys2Proof.Machine.execIncC s
  | .decC => Sys2Proof.Machine.execDecC s
  | .rrca => Sys2Proof.Machine.execRrca s
  | .ldAtDeA => Sys2Proof.Machine.execLdAtDeA s
  | .incDe => Sys2Proof.Machine.execIncDe s
  | .incD => Sys2Proof.Machine.execIncD s
  | .decD => Sys2Proof.Machine.execDecD s
  | .rla => Sys2Proof.Machine.execRla s
  | .addHlDe => Sys2Proof.Machine.execAddHlDe s
  | .ldAAtDe => Sys2Proof.Machine.execLdAAtDe s
  | .decDe => Sys2Proof.Machine.execDecDe s
  | .incE => Sys2Proof.Machine.execIncE s
  | .decE => Sys2Proof.Machine.execDecE s
  | .rra => Sys2Proof.Machine.execRra s
  | .ldAtHlIncA => Sys2Proof.Machine.execLdAtHlIncA s
  | .incHl => Sys2Proof.Machine.execIncHl s
  | .incH => Sys2Proof.Machine.execIncH s
  | .decH => Sys2Proof.Machine.execDecH s
  | .daa => Sys2Proof.Machine.execDaa s
  | .addHlHl => Sys2Proof.Machine.execAddHlHl s
  | .ldAAtHlInc => Sys2Proof.Machine.execLdAAtHlInc s
  | .decHl => Sys2Proof.Machine.execDecHl s
  | .incL => Sys2Proof.Machine.execIncL s
  | .decL => Sys2Proof.Machine.execDecL s
  | .cpl => Sys2Proof.Machine.execCpl s
  | .ldAtHlDecA => Sys2Proof.Machine.execLdAtHlDecA s
  | .incSp => Sys2Proof.Machine.execIncSp s
  | .incAtHl => Sys2Proof.Machine.execIncAtHl s
  | .decAtHl => Sys2Proof.Machine.execDecAtHl s
  | .scf => Sys2Proof.Machine.execScf s
  | .addHlSp => Sys2Proof.Machine.execAddHlSp s
  | .ldAAtHlDec => Sys2Proof.Machine.execLdAAtHlDec s
  | .decSp => Sys2Proof.Machine.execDecSp s
  | .incA => Sys2Proof.Machine.execIncA s
  | .decA => Sys2Proof.Machine.execDecA s
  | .ccf => Sys2Proof.Machine.execCcf s
  | .ldBB => Sys2Proof.Machine.execLdBB s
  | .ldBC => Sys2Proof.Machine.execLdBC s
  | .ldBD => Sys2Proof.Machine.execLdBD s
  | .ldBE => Sys2Proof.Machine.execLdBE s
  | .ldBH => Sys2Proof.Machine.execLdBH s
  | .ldBL => Sys2Proof.Machine.execLdBL s
  | .ldBAtHl => Sys2Proof.Machine.execLdBAtHl s
  | .ldBA => Sys2Proof.Machine.execLdBA s
  | .ldCB => Sys2Proof.Machine.execLdCB s
  | .ldCC => Sys2Proof.Machine.execLdCC s
  | .ldCD => Sys2Proof.Machine.execLdCD s
  | .ldCE => Sys2Proof.Machine.execLdCE s
  | .ldCH => Sys2Proof.Machine.execLdCH s
  | .ldCL => Sys2Proof.Machine.execLdCL s
  | .ldCAtHl => Sys2Proof.Machine.execLdCAtHl s
  | .ldCA => Sys2Proof.Machine.execLdCA s
  | .ldDB => Sys2Proof.Machine.execLdDB s
  | .ldDC => Sys2Proof.Machine.execLdDC s
  | .ldDD => Sys2Proof.Machine.execLdDD s
  | .ldDE => Sys2Proof.Machine.execLdDE s
  | .ldDH => Sys2Proof.Machine.execLdDH s
  | .ldDL => Sys2Proof.Machine.execLdDL s
  | .ldDAtHl => Sys2Proof.Machine.execLdDAtHl s
  | .ldDA => Sys2Proof.Machine.execLdDA s
  | .ldEB => Sys2Proof.Machine.execLdEB s
  | .ldEC => Sys2Proof.Machine.execLdEC s
  | .ldED => Sys2Proof.Machine.execLdED s
  | .ldEE => Sys2Proof.Machine.execLdEE s
  | .ldEH => Sys2Proof.Machine.execLdEH s
  | .ldEL => Sys2Proof.Machine.execLdEL s
  | .ldEAtHl => Sys2Proof.Machine.execLdEAtHl s
  | .ldEA => Sys2Proof.Machine.execLdEA s
  | .ldHB => Sys2Proof.Machine.execLdHB s
  | .ldHC => Sys2Proof.Machine.execLdHC s
  | .ldHD => Sys2Proof.Machine.execLdHD s
  | .ldHE => Sys2Proof.Machine.execLdHE s
  | .ldHH => Sys2Proof.Machine.execLdHH s
  | .ldHL => Sys2Proof.Machine.execLdHL s
  | .ldHAtHl => Sys2Proof.Machine.execLdHAtHl s
  | .ldHA => Sys2Proof.Machine.execLdHA s
  | .ldLB => Sys2Proof.Machine.execLdLB s
  | .ldLC => Sys2Proof.Machine.execLdLC s
  | .ldLD => Sys2Proof.Machine.execLdLD s
  | .ldLE => Sys2Proof.Machine.execLdLE s
  | .ldLH => Sys2Proof.Machine.execLdLH s
  | .ldLL => Sys2Proof.Machine.execLdLL s
  | .ldLAtHl => Sys2Proof.Machine.execLdLAtHl s
  | .ldLA => Sys2Proof.Machine.execLdLA s
  | .ldAtHlB => Sys2Proof.Machine.execLdAtHlB s
  | .ldAtHlC => Sys2Proof.Machine.execLdAtHlC s
  | .ldAtHlD => Sys2Proof.Machine.execLdAtHlD s
  | .ldAtHlE => Sys2Proof.Machine.execLdAtHlE s
  | .ldAtHlH => Sys2Proof.Machine.execLdAtHlH s
  | .ldAtHlL => Sys2Proof.Machine.execLdAtHlL s
  | .halt => Sys2Proof.Machine.execHalt s
  | .ldAtHlA => Sys2Proof.Machine.execLdAtHlA s
  | .ldAB => Sys2Proof.Machine.execLdAB s
  | .ldAC => Sys2Proof.Machine.execLdAC s
  | .ldAD => Sys2Proof.Machine.execLdAD s
  | .ldAE => Sys2Proof.Machine.execLdAE s
  | .ldAH => Sys2Proof.Machine.execLdAH s
  | .ldAL => Sys2Proof.Machine.execLdAL s
  | .ldAAtHl => Sys2Proof.Machine.execLdAAtHl s
  | .ldAA => Sys2Proof.Machine.execLdAA s
  | .addAB => Sys2Proof.Machine.execAddAB s
  | .addAC => Sys2Proof.Machine.execAddAC s
  | .addAD => Sys2Proof.Machine.execAddAD s
  | .addAE => Sys2Proof.Machine.execAddAE s
  | .addAH => Sys2Proof.Machine.execAddAH s
  | .addAL => Sys2Proof.Machine.execAddAL s
  | .addAAtHl => Sys2Proof.Machine.execAddAAtHl s
  | .addAA => Sys2Proof.Machine.execAddAA s
  | .adcAB => Sys2Proof.Machine.execAdcAB s
  | .adcAC => Sys2Proof.Machine.execAdcAC s
  | .adcAD => Sys2Proof.Machine.execAdcAD s
  | .adcAE => Sys2Proof.Machine.execAdcAE s
  | .adcAH => Sys2Proof.Machine.execAdcAH s
  | .adcAL => Sys2Proof.Machine.execAdcAL s
  | .adcAAtHl => Sys2Proof.Machine.execAdcAAtHl s
  | .adcAA => Sys2Proof.Machine.execAdcAA s
  | .subB => Sys2Proof.Machine.execSubB s
  | .subC => Sys2Proof.Machine.execSubC s
  | .subD => Sys2Proof.Machine.execSubD s
  | .subE => Sys2Proof.Machine.execSubE s
  | .subH => Sys2Proof.Machine.execSubH s
  | .subL => Sys2Proof.Machine.execSubL s
  | .subAtHl => Sys2Proof.Machine.execSubAtHl s
  | .subA => Sys2Proof.Machine.execSubA s
  | .sbcAB => Sys2Proof.Machine.execSbcAB s
  | .sbcAC => Sys2Proof.Machine.execSbcAC s
  | .sbcAD => Sys2Proof.Machine.execSbcAD s
  | .sbcAE => Sys2Proof.Machine.execSbcAE s
  | .sbcAH => Sys2Proof.Machine.execSbcAH s
  | .sbcAL => Sys2Proof.Machine.execSbcAL s
  | .sbcAAtHl => Sys2Proof.Machine.execSbcAAtHl s
  | .sbcAA => Sys2Proof.Machine.execSbcAA s
  | .andB => Sys2Proof.Machine.execAndB s
  | .andC => Sys2Proof.Machine.execAndC s
  | .andD => Sys2Proof.Machine.execAndD s
  | .andE => Sys2Proof.Machine.execAndE s
  | .andH => Sys2Proof.Machine.execAndH s
  | .andL => Sys2Proof.Machine.execAndL s
  | .andAtHl => Sys2Proof.Machine.execAndAtHl s
  | .andA => Sys2Proof.Machine.execAndA s
  | .xorB => Sys2Proof.Machine.execXorB s
  | .xorC => Sys2Proof.Machine.execXorC s
  | .xorD => Sys2Proof.Machine.execXorD s
  | .xorE => Sys2Proof.Machine.execXorE s
  | .xorH => Sys2Proof.Machine.execXorH s
  | .xorL => Sys2Proof.Machine.execXorL s
  | .xorAtHl => Sys2Proof.Machine.execXorAtHl s
  | .xorA => Sys2Proof.Machine.execXorA s
  | .orB => Sys2Proof.Machine.execOrB s
  | .orC => Sys2Proof.Machine.execOrC s
  | .orD => Sys2Proof.Machine.execOrD s
  | .orE => Sys2Proof.Machine.execOrE s
  | .orH => Sys2Proof.Machine.execOrH s
  | .orL => Sys2Proof.Machine.execOrL s
  | .orAtHl => Sys2Proof.Machine.execOrAtHl s
  | .orA => Sys2Proof.Machine.execOrA s
  | .cpB => Sys2Proof.Machine.execCpB s
  | .cpC => Sys2Proof.Machine.execCpC s
  | .cpD => Sys2Proof.Machine.execCpD s
  | .cpE => Sys2Proof.Machine.execCpE s
  | .cpH => Sys2Proof.Machine.execCpH s
  | .cpL => Sys2Proof.Machine.execCpL s
  | .cpAtHl => Sys2Proof.Machine.execCpAtHl s
  | .cpA => Sys2Proof.Machine.execCpA s
  | .retNz => Sys2Proof.Machine.execRetNz s
  | .popBc => Sys2Proof.Machine.execPopBc s
  | .pushBc => Sys2Proof.Machine.execPushBc s
  | .rst00 => Sys2Proof.Machine.execRst00 s
  | .retZ => Sys2Proof.Machine.execRetZ s
  | .ret => Sys2Proof.Machine.execRet s
  | .rst08 => Sys2Proof.Machine.execRst08 s
  | .retNc => Sys2Proof.Machine.execRetNc s
  | .popDe => Sys2Proof.Machine.execPopDe s
  | .illegalD3 => Sys2Proof.Machine.execIllegalD3 s
  | .pushDe => Sys2Proof.Machine.execPushDe s
  | .rst10 => Sys2Proof.Machine.execRst10 s
  | .retC => Sys2Proof.Machine.execRetC s
  | .reti => Sys2Proof.Machine.execReti s
  | .illegalDB => Sys2Proof.Machine.execIllegalDB s
  | .illegalDD => Sys2Proof.Machine.execIllegalDD s
  | .rst18 => Sys2Proof.Machine.execRst18 s
  | .popHl => Sys2Proof.Machine.execPopHl s
  | .ldAtCA => Sys2Proof.Machine.execLdAtCA s
  | .illegalE3 => Sys2Proof.Machine.execIllegalE3 s
  | .illegalE4 => Sys2Proof.Machine.execIllegalE4 s
  | .pushHl => Sys2Proof.Machine.execPushHl s
  | .rst20 => Sys2Proof.Machine.execRst20 s
  | .jpHl => Sys2Proof.Machine.execJpHl s
  | .illegalEB => Sys2Proof.Machine.execIllegalEB s
  | .illegalEC => Sys2Proof.Machine.execIllegalEC s
  | .illegalED => Sys2Proof.Machine.execIllegalED s
  | .rst28 => Sys2Proof.Machine.execRst28 s
  | .popAf => Sys2Proof.Machine.execPopAf s
  | .ldAAtC => Sys2Proof.Machine.execLdAAtC s
  | .di => Sys2Proof.Machine.execDi s
  | .illegalF4 => Sys2Proof.Machine.execIllegalF4 s
  | .pushAf => Sys2Proof.Machine.execPushAf s
  | .rst30 => Sys2Proof.Machine.execRst30 s
  | .ldSpHl => Sys2Proof.Machine.execLdSpHl s
  | .ei => Sys2Proof.Machine.execEi s
  | .illegalFC => Sys2Proof.Machine.execIllegalFC s
  | .illegalFD => Sys2Proof.Machine.execIllegalFD s
  | .rst38 => Sys2Proof.Machine.execRst38 s
  | .cbRlcB => Sys2Proof.Machine.execCbRlcB s
  | .cbRlcC => Sys2Proof.Machine.execCbRlcC s
  | .cbRlcD => Sys2Proof.Machine.execCbRlcD s
  | .cbRlcE => Sys2Proof.Machine.execCbRlcE s
  | .cbRlcH => Sys2Proof.Machine.execCbRlcH s
  | .cbRlcL => Sys2Proof.Machine.execCbRlcL s
  | .cbRlcAtHl => Sys2Proof.Machine.execCbRlcAtHl s
  | .cbRlcA => Sys2Proof.Machine.execCbRlcA s
  | .cbRrcB => Sys2Proof.Machine.execCbRrcB s
  | .cbRrcC => Sys2Proof.Machine.execCbRrcC s
  | .cbRrcD => Sys2Proof.Machine.execCbRrcD s
  | .cbRrcE => Sys2Proof.Machine.execCbRrcE s
  | .cbRrcH => Sys2Proof.Machine.execCbRrcH s
  | .cbRrcL => Sys2Proof.Machine.execCbRrcL s
  | .cbRrcAtHl => Sys2Proof.Machine.execCbRrcAtHl s
  | .cbRrcA => Sys2Proof.Machine.execCbRrcA s
  | .cbRlB => Sys2Proof.Machine.execCbRlB s
  | .cbRlC => Sys2Proof.Machine.execCbRlC s
  | .cbRlD => Sys2Proof.Machine.execCbRlD s
  | .cbRlE => Sys2Proof.Machine.execCbRlE s
  | .cbRlH => Sys2Proof.Machine.execCbRlH s
  | .cbRlL => Sys2Proof.Machine.execCbRlL s
  | .cbRlAtHl => Sys2Proof.Machine.execCbRlAtHl s
  | .cbRlA => Sys2Proof.Machine.execCbRlA s
  | .cbRrB => Sys2Proof.Machine.execCbRrB s
  | .cbRrC => Sys2Proof.Machine.execCbRrC s
  | .cbRrD => Sys2Proof.Machine.execCbRrD s
  | .cbRrE => Sys2Proof.Machine.execCbRrE s
  | .cbRrH => Sys2Proof.Machine.execCbRrH s
  | .cbRrL => Sys2Proof.Machine.execCbRrL s
  | .cbRrAtHl => Sys2Proof.Machine.execCbRrAtHl s
  | .cbRrA => Sys2Proof.Machine.execCbRrA s
  | .cbSlaB => Sys2Proof.Machine.execCbSlaB s
  | .cbSlaC => Sys2Proof.Machine.execCbSlaC s
  | .cbSlaD => Sys2Proof.Machine.execCbSlaD s
  | .cbSlaE => Sys2Proof.Machine.execCbSlaE s
  | .cbSlaH => Sys2Proof.Machine.execCbSlaH s
  | .cbSlaL => Sys2Proof.Machine.execCbSlaL s
  | .cbSlaAtHl => Sys2Proof.Machine.execCbSlaAtHl s
  | .cbSlaA => Sys2Proof.Machine.execCbSlaA s
  | .cbSraB => Sys2Proof.Machine.execCbSraB s
  | .cbSraC => Sys2Proof.Machine.execCbSraC s
  | .cbSraD => Sys2Proof.Machine.execCbSraD s
  | .cbSraE => Sys2Proof.Machine.execCbSraE s
  | .cbSraH => Sys2Proof.Machine.execCbSraH s
  | .cbSraL => Sys2Proof.Machine.execCbSraL s
  | .cbSraAtHl => Sys2Proof.Machine.execCbSraAtHl s
  | .cbSraA => Sys2Proof.Machine.execCbSraA s
  | .cbSwapB => Sys2Proof.Machine.execCbSwapB s
  | .cbSwapC => Sys2Proof.Machine.execCbSwapC s
  | .cbSwapD => Sys2Proof.Machine.execCbSwapD s
  | .cbSwapE => Sys2Proof.Machine.execCbSwapE s
  | .cbSwapH => Sys2Proof.Machine.execCbSwapH s
  | .cbSwapL => Sys2Proof.Machine.execCbSwapL s
  | .cbSwapAtHl => Sys2Proof.Machine.execCbSwapAtHl s
  | .cbSwapA => Sys2Proof.Machine.execCbSwapA s
  | .cbSrlB => Sys2Proof.Machine.execCbSrlB s
  | .cbSrlC => Sys2Proof.Machine.execCbSrlC s
  | .cbSrlD => Sys2Proof.Machine.execCbSrlD s
  | .cbSrlE => Sys2Proof.Machine.execCbSrlE s
  | .cbSrlH => Sys2Proof.Machine.execCbSrlH s
  | .cbSrlL => Sys2Proof.Machine.execCbSrlL s
  | .cbSrlAtHl => Sys2Proof.Machine.execCbSrlAtHl s
  | .cbSrlA => Sys2Proof.Machine.execCbSrlA s
  | .cbBit0B => Sys2Proof.Machine.execCbBit0B s
  | .cbBit0C => Sys2Proof.Machine.execCbBit0C s
  | .cbBit0D => Sys2Proof.Machine.execCbBit0D s
  | .cbBit0E => Sys2Proof.Machine.execCbBit0E s
  | .cbBit0H => Sys2Proof.Machine.execCbBit0H s
  | .cbBit0L => Sys2Proof.Machine.execCbBit0L s
  | .cbBit0AtHl => Sys2Proof.Machine.execCbBit0AtHl s
  | .cbBit0A => Sys2Proof.Machine.execCbBit0A s
  | .cbBit1B => Sys2Proof.Machine.execCbBit1B s
  | .cbBit1C => Sys2Proof.Machine.execCbBit1C s
  | .cbBit1D => Sys2Proof.Machine.execCbBit1D s
  | .cbBit1E => Sys2Proof.Machine.execCbBit1E s
  | .cbBit1H => Sys2Proof.Machine.execCbBit1H s
  | .cbBit1L => Sys2Proof.Machine.execCbBit1L s
  | .cbBit1AtHl => Sys2Proof.Machine.execCbBit1AtHl s
  | .cbBit1A => Sys2Proof.Machine.execCbBit1A s
  | .cbBit2B => Sys2Proof.Machine.execCbBit2B s
  | .cbBit2C => Sys2Proof.Machine.execCbBit2C s
  | .cbBit2D => Sys2Proof.Machine.execCbBit2D s
  | .cbBit2E => Sys2Proof.Machine.execCbBit2E s
  | .cbBit2H => Sys2Proof.Machine.execCbBit2H s
  | .cbBit2L => Sys2Proof.Machine.execCbBit2L s
  | .cbBit2AtHl => Sys2Proof.Machine.execCbBit2AtHl s
  | .cbBit2A => Sys2Proof.Machine.execCbBit2A s
  | .cbBit3B => Sys2Proof.Machine.execCbBit3B s
  | .cbBit3C => Sys2Proof.Machine.execCbBit3C s
  | .cbBit3D => Sys2Proof.Machine.execCbBit3D s
  | .cbBit3E => Sys2Proof.Machine.execCbBit3E s
  | .cbBit3H => Sys2Proof.Machine.execCbBit3H s
  | .cbBit3L => Sys2Proof.Machine.execCbBit3L s
  | .cbBit3AtHl => Sys2Proof.Machine.execCbBit3AtHl s
  | .cbBit3A => Sys2Proof.Machine.execCbBit3A s
  | .cbBit4B => Sys2Proof.Machine.execCbBit4B s
  | .cbBit4C => Sys2Proof.Machine.execCbBit4C s
  | .cbBit4D => Sys2Proof.Machine.execCbBit4D s
  | .cbBit4E => Sys2Proof.Machine.execCbBit4E s
  | .cbBit4H => Sys2Proof.Machine.execCbBit4H s
  | .cbBit4L => Sys2Proof.Machine.execCbBit4L s
  | .cbBit4AtHl => Sys2Proof.Machine.execCbBit4AtHl s
  | .cbBit4A => Sys2Proof.Machine.execCbBit4A s
  | .cbBit5B => Sys2Proof.Machine.execCbBit5B s
  | .cbBit5C => Sys2Proof.Machine.execCbBit5C s
  | .cbBit5D => Sys2Proof.Machine.execCbBit5D s
  | .cbBit5E => Sys2Proof.Machine.execCbBit5E s
  | .cbBit5H => Sys2Proof.Machine.execCbBit5H s
  | .cbBit5L => Sys2Proof.Machine.execCbBit5L s
  | .cbBit5AtHl => Sys2Proof.Machine.execCbBit5AtHl s
  | .cbBit5A => Sys2Proof.Machine.execCbBit5A s
  | .cbBit6B => Sys2Proof.Machine.execCbBit6B s
  | .cbBit6C => Sys2Proof.Machine.execCbBit6C s
  | .cbBit6D => Sys2Proof.Machine.execCbBit6D s
  | .cbBit6E => Sys2Proof.Machine.execCbBit6E s
  | .cbBit6H => Sys2Proof.Machine.execCbBit6H s
  | .cbBit6L => Sys2Proof.Machine.execCbBit6L s
  | .cbBit6AtHl => Sys2Proof.Machine.execCbBit6AtHl s
  | .cbBit6A => Sys2Proof.Machine.execCbBit6A s
  | .cbBit7B => Sys2Proof.Machine.execCbBit7B s
  | .cbBit7C => Sys2Proof.Machine.execCbBit7C s
  | .cbBit7D => Sys2Proof.Machine.execCbBit7D s
  | .cbBit7E => Sys2Proof.Machine.execCbBit7E s
  | .cbBit7H => Sys2Proof.Machine.execCbBit7H s
  | .cbBit7L => Sys2Proof.Machine.execCbBit7L s
  | .cbBit7AtHl => Sys2Proof.Machine.execCbBit7AtHl s
  | .cbBit7A => Sys2Proof.Machine.execCbBit7A s
  | .cbRes0B => Sys2Proof.Machine.execCbRes0B s
  | .cbRes0C => Sys2Proof.Machine.execCbRes0C s
  | .cbRes0D => Sys2Proof.Machine.execCbRes0D s
  | .cbRes0E => Sys2Proof.Machine.execCbRes0E s
  | .cbRes0H => Sys2Proof.Machine.execCbRes0H s
  | .cbRes0L => Sys2Proof.Machine.execCbRes0L s
  | .cbRes0AtHl => Sys2Proof.Machine.execCbRes0AtHl s
  | .cbRes0A => Sys2Proof.Machine.execCbRes0A s
  | .cbRes1B => Sys2Proof.Machine.execCbRes1B s
  | .cbRes1C => Sys2Proof.Machine.execCbRes1C s
  | .cbRes1D => Sys2Proof.Machine.execCbRes1D s
  | .cbRes1E => Sys2Proof.Machine.execCbRes1E s
  | .cbRes1H => Sys2Proof.Machine.execCbRes1H s
  | .cbRes1L => Sys2Proof.Machine.execCbRes1L s
  | .cbRes1AtHl => Sys2Proof.Machine.execCbRes1AtHl s
  | .cbRes1A => Sys2Proof.Machine.execCbRes1A s
  | .cbRes2B => Sys2Proof.Machine.execCbRes2B s
  | .cbRes2C => Sys2Proof.Machine.execCbRes2C s
  | .cbRes2D => Sys2Proof.Machine.execCbRes2D s
  | .cbRes2E => Sys2Proof.Machine.execCbRes2E s
  | .cbRes2H => Sys2Proof.Machine.execCbRes2H s
  | .cbRes2L => Sys2Proof.Machine.execCbRes2L s
  | .cbRes2AtHl => Sys2Proof.Machine.execCbRes2AtHl s
  | .cbRes2A => Sys2Proof.Machine.execCbRes2A s
  | .cbRes3B => Sys2Proof.Machine.execCbRes3B s
  | .cbRes3C => Sys2Proof.Machine.execCbRes3C s
  | .cbRes3D => Sys2Proof.Machine.execCbRes3D s
  | .cbRes3E => Sys2Proof.Machine.execCbRes3E s
  | .cbRes3H => Sys2Proof.Machine.execCbRes3H s
  | .cbRes3L => Sys2Proof.Machine.execCbRes3L s
  | .cbRes3AtHl => Sys2Proof.Machine.execCbRes3AtHl s
  | .cbRes3A => Sys2Proof.Machine.execCbRes3A s
  | .cbRes4B => Sys2Proof.Machine.execCbRes4B s
  | .cbRes4C => Sys2Proof.Machine.execCbRes4C s
  | .cbRes4D => Sys2Proof.Machine.execCbRes4D s
  | .cbRes4E => Sys2Proof.Machine.execCbRes4E s
  | .cbRes4H => Sys2Proof.Machine.execCbRes4H s
  | .cbRes4L => Sys2Proof.Machine.execCbRes4L s
  | .cbRes4AtHl => Sys2Proof.Machine.execCbRes4AtHl s
  | .cbRes4A => Sys2Proof.Machine.execCbRes4A s
  | .cbRes5B => Sys2Proof.Machine.execCbRes5B s
  | .cbRes5C => Sys2Proof.Machine.execCbRes5C s
  | .cbRes5D => Sys2Proof.Machine.execCbRes5D s
  | .cbRes5E => Sys2Proof.Machine.execCbRes5E s
  | .cbRes5H => Sys2Proof.Machine.execCbRes5H s
  | .cbRes5L => Sys2Proof.Machine.execCbRes5L s
  | .cbRes5AtHl => Sys2Proof.Machine.execCbRes5AtHl s
  | .cbRes5A => Sys2Proof.Machine.execCbRes5A s
  | .cbRes6B => Sys2Proof.Machine.execCbRes6B s
  | .cbRes6C => Sys2Proof.Machine.execCbRes6C s
  | .cbRes6D => Sys2Proof.Machine.execCbRes6D s
  | .cbRes6E => Sys2Proof.Machine.execCbRes6E s
  | .cbRes6H => Sys2Proof.Machine.execCbRes6H s
  | .cbRes6L => Sys2Proof.Machine.execCbRes6L s
  | .cbRes6AtHl => Sys2Proof.Machine.execCbRes6AtHl s
  | .cbRes6A => Sys2Proof.Machine.execCbRes6A s
  | .cbRes7B => Sys2Proof.Machine.execCbRes7B s
  | .cbRes7C => Sys2Proof.Machine.execCbRes7C s
  | .cbRes7D => Sys2Proof.Machine.execCbRes7D s
  | .cbRes7E => Sys2Proof.Machine.execCbRes7E s
  | .cbRes7H => Sys2Proof.Machine.execCbRes7H s
  | .cbRes7L => Sys2Proof.Machine.execCbRes7L s
  | .cbRes7AtHl => Sys2Proof.Machine.execCbRes7AtHl s
  | .cbRes7A => Sys2Proof.Machine.execCbRes7A s
  | .cbSet0B => Sys2Proof.Machine.execCbSet0B s
  | .cbSet0C => Sys2Proof.Machine.execCbSet0C s
  | .cbSet0D => Sys2Proof.Machine.execCbSet0D s
  | .cbSet0E => Sys2Proof.Machine.execCbSet0E s
  | .cbSet0H => Sys2Proof.Machine.execCbSet0H s
  | .cbSet0L => Sys2Proof.Machine.execCbSet0L s
  | .cbSet0AtHl => Sys2Proof.Machine.execCbSet0AtHl s
  | .cbSet0A => Sys2Proof.Machine.execCbSet0A s
  | .cbSet1B => Sys2Proof.Machine.execCbSet1B s
  | .cbSet1C => Sys2Proof.Machine.execCbSet1C s
  | .cbSet1D => Sys2Proof.Machine.execCbSet1D s
  | .cbSet1E => Sys2Proof.Machine.execCbSet1E s
  | .cbSet1H => Sys2Proof.Machine.execCbSet1H s
  | .cbSet1L => Sys2Proof.Machine.execCbSet1L s
  | .cbSet1AtHl => Sys2Proof.Machine.execCbSet1AtHl s
  | .cbSet1A => Sys2Proof.Machine.execCbSet1A s
  | .cbSet2B => Sys2Proof.Machine.execCbSet2B s
  | .cbSet2C => Sys2Proof.Machine.execCbSet2C s
  | .cbSet2D => Sys2Proof.Machine.execCbSet2D s
  | .cbSet2E => Sys2Proof.Machine.execCbSet2E s
  | .cbSet2H => Sys2Proof.Machine.execCbSet2H s
  | .cbSet2L => Sys2Proof.Machine.execCbSet2L s
  | .cbSet2AtHl => Sys2Proof.Machine.execCbSet2AtHl s
  | .cbSet2A => Sys2Proof.Machine.execCbSet2A s
  | .cbSet3B => Sys2Proof.Machine.execCbSet3B s
  | .cbSet3C => Sys2Proof.Machine.execCbSet3C s
  | .cbSet3D => Sys2Proof.Machine.execCbSet3D s
  | .cbSet3E => Sys2Proof.Machine.execCbSet3E s
  | .cbSet3H => Sys2Proof.Machine.execCbSet3H s
  | .cbSet3L => Sys2Proof.Machine.execCbSet3L s
  | .cbSet3AtHl => Sys2Proof.Machine.execCbSet3AtHl s
  | .cbSet3A => Sys2Proof.Machine.execCbSet3A s
  | .cbSet4B => Sys2Proof.Machine.execCbSet4B s
  | .cbSet4C => Sys2Proof.Machine.execCbSet4C s
  | .cbSet4D => Sys2Proof.Machine.execCbSet4D s
  | .cbSet4E => Sys2Proof.Machine.execCbSet4E s
  | .cbSet4H => Sys2Proof.Machine.execCbSet4H s
  | .cbSet4L => Sys2Proof.Machine.execCbSet4L s
  | .cbSet4AtHl => Sys2Proof.Machine.execCbSet4AtHl s
  | .cbSet4A => Sys2Proof.Machine.execCbSet4A s
  | .cbSet5B => Sys2Proof.Machine.execCbSet5B s
  | .cbSet5C => Sys2Proof.Machine.execCbSet5C s
  | .cbSet5D => Sys2Proof.Machine.execCbSet5D s
  | .cbSet5E => Sys2Proof.Machine.execCbSet5E s
  | .cbSet5H => Sys2Proof.Machine.execCbSet5H s
  | .cbSet5L => Sys2Proof.Machine.execCbSet5L s
  | .cbSet5AtHl => Sys2Proof.Machine.execCbSet5AtHl s
  | .cbSet5A => Sys2Proof.Machine.execCbSet5A s
  | .cbSet6B => Sys2Proof.Machine.execCbSet6B s
  | .cbSet6C => Sys2Proof.Machine.execCbSet6C s
  | .cbSet6D => Sys2Proof.Machine.execCbSet6D s
  | .cbSet6E => Sys2Proof.Machine.execCbSet6E s
  | .cbSet6H => Sys2Proof.Machine.execCbSet6H s
  | .cbSet6L => Sys2Proof.Machine.execCbSet6L s
  | .cbSet6AtHl => Sys2Proof.Machine.execCbSet6AtHl s
  | .cbSet6A => Sys2Proof.Machine.execCbSet6A s
  | .cbSet7B => Sys2Proof.Machine.execCbSet7B s
  | .cbSet7C => Sys2Proof.Machine.execCbSet7C s
  | .cbSet7D => Sys2Proof.Machine.execCbSet7D s
  | .cbSet7E => Sys2Proof.Machine.execCbSet7E s
  | .cbSet7H => Sys2Proof.Machine.execCbSet7H s
  | .cbSet7L => Sys2Proof.Machine.execCbSet7L s
  | .cbSet7AtHl => Sys2Proof.Machine.execCbSet7AtHl s
  | .cbSet7A => Sys2Proof.Machine.execCbSet7A s

end Sys2Proof.Machine
end

