-- ==== Sys2Proof/Machine/Tick.lean ====
section
/-! DEFINITION. One tick (R300): fetch, decode and execute exactly one instruction, or nothing while Halted or Stopped. -/

namespace Sys2Proof.Machine

/-- R300: `tick`, for a given `STOP_LENGTH`. With Halted = 1 and Stopped = 1 it refuses; with one of them it makes no
bus access and changes nothing; else every byte of the instruction is fetched, PC advancing past it (R210), and the
instruction's rule runs. -/
def tick (len : StopLength) (s : State) : Result :=
  if s.halted = true ∧ s.stopped = true then .refused .haltedAndStopped
  else if s.halted = true ∨ s.stopped = true then .next s
  else
    let r := s.fetchInstr len
    exec r.1 r.2

end Sys2Proof.Machine
end

