-- ==== Sys2Proof/Machine/Step.lean ====
section
/-! DEFINITION. The machine's step: one tick of the core, or the act of the outside world that comes before it. -/

namespace Sys2Proof.Machine

/-- R1203, R1204: the outside world acts between two ticks and never during one, so a step is either one `tick` (R300) or
one dispatcher move or reset, as `events` says; with no event left every step is a tick (log entry 4). -/
def step (s : State) : Host.Outcome State Fault Refusal :=
  match s.events with
  | [] => tick Config.stopLength s
  | .tick :: rest => tick Config.stopLength { s with events := rest }
  | .dispatcher m :: rest => .next (State.dispatcherMove { s with events := rest } m)
  | .reset :: rest => .next (State.hostReset Config.resetProfile { s with events := rest })

/-- The state whose very next step fetches and runs the instruction of a word numbered as the opcode table numbers it
(log entries 5 and 6). -/
def State.withFetchWord (s : State) (nbits w : Nat) : State := s.placeInstr (tableBytes nbits w)

end Sys2Proof.Machine
end

