-- ==== Sys2Proof/Safety.lean ====
section
/-! DEFINITION. The terms statements are written in: which states are admitted, and, written from the rules rather than
from the meanings, what each instruction may change and which bus calls it makes. -/

namespace Sys2Proof

/-- The eleven illegal instructions (R320). -/
def Instr.isIllegal (i : Instr) : Bool :=
  match i with
  | .illegalD3 | .illegalDB | .illegalDD | .illegalE3 | .illegalE4 | .illegalEB | .illegalEC | .illegalED
  | .illegalF4 | .illegalFC | .illegalFD => true
  | _ => false

/-- A register as an `r8` operand (R110). -/
def Reg8.r8 : Reg8 → R8
  | .a => .a
  | .b => .b
  | .c => .c
  | .d => .d
  | .e => .e
  | .h => .h
  | .l => .l

/-! The operand families as the bits of an opcode, numbered as R110 to R115, R305 and R306 number them -/

/-- The opcode field of an `r8` operand (R110). -/
def R8.code : R8 → BitVec 3
  | .b => 0
  | .c => 1
  | .d => 2
  | .e => 3
  | .h => 4
  | .l => 5
  | .atHl => 6
  | .a => 7

/-- The opcode field of an `rp` pair (R111). -/
def Rp.code : Rp → BitVec 2
  | .bc => 0
  | .de => 1
  | .hl => 2
  | .sp => 3

/-- The opcode field of an `rp2` pair (R112). -/
def Rp2.code : Rp2 → BitVec 2
  | .bc => 0
  | .de => 1
  | .hl => 2
  | .af => 3

/-- The opcode field of an `ind` pair (R113). -/
def Ind.code : Ind → BitVec 2
  | .bc => 0
  | .de => 1
  | .hlInc => 2
  | .hlDec => 3

/-- The opcode field of a condition (R114). -/
def Cond.code : Cond → BitVec 2
  | .nz => 0
  | .z => 1
  | .nc => 2
  | .c => 3

/-- The opcode field of an accumulator operation (R305). -/
def AluOp.code : AluOp → BitVec 3
  | .add => 0
  | .adc => 1
  | .sub => 2
  | .sbc => 3
  | .and => 4
  | .xor => 5
  | .or => 6
  | .cp => 7

/-- The opcode field of a rotate or shift (R306). -/
def ShiftOp.code : ShiftOp → BitVec 3
  | .rlc => 0
  | .rrc => 1
  | .rl => 2
  | .rr => 3
  | .sla => 4
  | .sra => 5
  | .swap => 6
  | .srl => 7

/-- The opcode field of a bit number or an RST index (R302). -/
def Octal.code : Octal → BitVec 3
  | .n0 => 0
  | .n1 => 1
  | .n2 => 2
  | .n3 => 3
  | .n4 => 4
  | .n5 => 5
  | .n6 => 6
  | .n7 => 7

/-- A two-digit decimal number below 100 as a BCD byte: the tens in the high nibble, the units in the low one. -/
def bcd (x : Nat) : Byte := BitVec.ofNat 8 (x / 10 * 16 + x % 10)

end Sys2Proof

namespace Sys2Proof.Machine

/-- R105: Running mode. -/
def State.running (s : State) : Bool := !s.halted && !s.stopped

/-- R105: the admitted states: Halted and Stopped are not both set. -/
def State.legalMode (s : State) : Bool := !(s.halted && s.stopped)

/-- The state the core ticks from where the next step is a tick: no event is left, or the next event is `tick`. -/
def State.coreTurn (s : State) : Option State :=
  match s.events with
  | [] => some s
  | .tick :: rest => some { s with events := rest }
  | .dispatcher _ :: _ => none
  | .reset :: _ => none

/-- The memory of a state is in its canonical form (log entry 2). -/
def State.memWf (s : State) : Bool := Memory.wf s.bus.mem

/-- The part of the core's state an instruction writes, the bus aside, once its bytes have been fetched and PC is past
them. A field is set where the instruction's rule lets it write that register or flag, on some path. -/
structure Effect where
  regs : List Reg8 := []
  z : Bool := false
  n : Bool := false
  h : Bool := false
  c : Bool := false
  sp : Bool := false
  pc : Bool := false
  ime : Bool := false
  halted : Bool := false
  stopped : Bool := false
  deriving DecidableEq, Repr

/-- What each instruction writes, from the rules of files 40 to 47; the flag columns are the table after R121. -/
def effect (i : Instr) : Effect :=
  match i with
  | .nop | .ldAtBcA | .ldAtN16Sp _ | .ldAtDeA | .ldAtHlN8 _ | .ldAtHlB | .ldAtHlC | .ldAtHlD | .ldAtHlE | .ldAtHlH
  | .ldAtHlL | .ldAtHlA | .ldhAtN8A _ | .ldAtCA | .ldAtN16A _ | .cbRes0AtHl | .cbRes1AtHl | .cbRes2AtHl
  | .cbRes3AtHl | .cbRes4AtHl | .cbRes5AtHl | .cbRes6AtHl | .cbRes7AtHl | .cbSet0AtHl | .cbSet1AtHl | .cbSet2AtHl
  | .cbSet3AtHl | .cbSet4AtHl | .cbSet5AtHl | .cbSet6AtHl | .cbSet7AtHl =>
    { }
  | .ldBcN16 _ | .incBc | .decBc =>
    { regs := [.b, .c] }
  | .incB | .decB =>
    { regs := [.b], z := true, n := true, h := true }
  | .ldBN8 _ | .ldBB | .ldBC | .ldBD | .ldBE | .ldBH | .ldBL | .ldBAtHl | .ldBA | .cbRes0B | .cbRes1B | .cbRes2B
  | .cbRes3B | .cbRes4B | .cbRes5B | .cbRes6B | .cbRes7B | .cbSet0B | .cbSet1B | .cbSet2B | .cbSet3B | .cbSet4B
  | .cbSet5B | .cbSet6B | .cbSet7B =>
    { regs := [.b] }
  | .rlca | .rrca | .rla | .rra | .addAB | .addAC | .addAD | .addAE | .addAH | .addAL | .addAAtHl | .addAA
  | .adcAB | .adcAC | .adcAD | .adcAE | .adcAH | .adcAL | .adcAAtHl | .adcAA | .subB | .subC | .subD | .subE
  | .subH | .subL | .subAtHl | .subA | .sbcAB | .sbcAC | .sbcAD | .sbcAE | .sbcAH | .sbcAL | .sbcAAtHl | .sbcAA
  | .andB | .andC | .andD | .andE | .andH | .andL | .andAtHl | .andA | .xorB | .xorC | .xorD | .xorE | .xorH
  | .xorL | .xorAtHl | .xorA | .orB | .orC | .orD | .orE | .orH | .orL | .orAtHl | .orA | .addAN8 _ | .adcAN8 _
  | .subN8 _ | .sbcAN8 _ | .andN8 _ | .xorN8 _ | .orN8 _ | .cbRlcA | .cbRrcA | .cbRlA | .cbRrA | .cbSlaA | .cbSraA
  | .cbSwapA | .cbSrlA =>
    { regs := [.a], z := true, n := true, h := true, c := true }
  | .addHlBc | .addHlDe | .addHlHl | .addHlSp =>
    { regs := [.h, .l], n := true, h := true, c := true }
  | .ldAAtBc | .ldAAtDe | .ldAN8 _ | .ldAB | .ldAC | .ldAD | .ldAE | .ldAH | .ldAL | .ldAAtHl | .ldAA
  | .ldhAAtN8 _ | .ldAAtC | .ldAAtN16 _ | .cbRes0A | .cbRes1A | .cbRes2A | .cbRes3A | .cbRes4A | .cbRes5A
  | .cbRes6A | .cbRes7A | .cbSet0A | .cbSet1A | .cbSet2A | .cbSet3A | .cbSet4A | .cbSet5A | .cbSet6A | .cbSet7A =>
    { regs := [.a] }
  | .incC | .decC =>
    { regs := [.c], z := true, n := true, h := true }
  | .ldCN8 _ | .ldCB | .ldCC | .ldCD | .ldCE | .ldCH | .ldCL | .ldCAtHl | .ldCA | .cbRes0C | .cbRes1C | .cbRes2C
  | .cbRes3C | .cbRes4C | .cbRes5C | .cbRes6C | .cbRes7C | .cbSet0C | .cbSet1C | .cbSet2C | .cbSet3C | .cbSet4C
  | .cbSet5C | .cbSet6C | .cbSet7C =>
    { regs := [.c] }
  | .stop _ | .illegalD3 | .illegalDB | .illegalDD | .illegalE3 | .illegalE4 | .illegalEB | .illegalEC
  | .illegalED | .illegalF4 | .illegalFC | .illegalFD =>
    { stopped := true }
  | .ldDeN16 _ | .incDe | .decDe =>
    { regs := [.d, .e] }
  | .incD | .decD =>
    { regs := [.d], z := true, n := true, h := true }
  | .ldDN8 _ | .ldDB | .ldDC | .ldDD | .ldDE | .ldDH | .ldDL | .ldDAtHl | .ldDA | .cbRes0D | .cbRes1D | .cbRes2D
  | .cbRes3D | .cbRes4D | .cbRes5D | .cbRes6D | .cbRes7D | .cbSet0D | .cbSet1D | .cbSet2D | .cbSet3D | .cbSet4D
  | .cbSet5D | .cbSet6D | .cbSet7D =>
    { regs := [.d] }
  | .jrE8 _ | .jrNzE8 _ | .jrZE8 _ | .jrNcE8 _ | .jrCE8 _ | .jpNzN16 _ | .jpN16 _ | .jpZN16 _ | .jpNcN16 _
  | .jpCN16 _ | .jpHl =>
    { pc := true }
  | .incE | .decE =>
    { regs := [.e], z := true, n := true, h := true }
  | .ldEN8 _ | .ldEB | .ldEC | .ldED | .ldEE | .ldEH | .ldEL | .ldEAtHl | .ldEA | .cbRes0E | .cbRes1E | .cbRes2E
  | .cbRes3E | .cbRes4E | .cbRes5E | .cbRes6E | .cbRes7E | .cbSet0E | .cbSet1E | .cbSet2E | .cbSet3E | .cbSet4E
  | .cbSet5E | .cbSet6E | .cbSet7E =>
    { regs := [.e] }
  | .ldHlN16 _ | .ldAtHlIncA | .incHl | .decHl | .ldAtHlDecA =>
    { regs := [.h, .l] }
  | .incH | .decH =>
    { regs := [.h], z := true, n := true, h := true }
  | .ldHN8 _ | .ldHB | .ldHC | .ldHD | .ldHE | .ldHH | .ldHL | .ldHAtHl | .ldHA | .cbRes0H | .cbRes1H | .cbRes2H
  | .cbRes3H | .cbRes4H | .cbRes5H | .cbRes6H | .cbRes7H | .cbSet0H | .cbSet1H | .cbSet2H | .cbSet3H | .cbSet4H
  | .cbSet5H | .cbSet6H | .cbSet7H =>
    { regs := [.h] }
  | .daa =>
    { regs := [.a], z := true, h := true, c := true }
  | .ldAAtHlInc | .ldAAtHlDec =>
    { regs := [.a, .h, .l] }
  | .incL | .decL =>
    { regs := [.l], z := true, n := true, h := true }
  | .ldLN8 _ | .ldLB | .ldLC | .ldLD | .ldLE | .ldLH | .ldLL | .ldLAtHl | .ldLA | .cbRes0L | .cbRes1L | .cbRes2L
  | .cbRes3L | .cbRes4L | .cbRes5L | .cbRes6L | .cbRes7L | .cbSet0L | .cbSet1L | .cbSet2L | .cbSet3L | .cbSet4L
  | .cbSet5L | .cbSet6L | .cbSet7L =>
    { regs := [.l] }
  | .cpl =>
    { regs := [.a], n := true, h := true }
  | .ldSpN16 _ | .incSp | .decSp | .pushBc | .pushDe | .pushHl | .pushAf | .ldSpHl =>
    { sp := true }
  | .incAtHl | .decAtHl | .cbBit0B | .cbBit0C | .cbBit0D | .cbBit0E | .cbBit0H | .cbBit0L | .cbBit0AtHl | .cbBit0A
  | .cbBit1B | .cbBit1C | .cbBit1D | .cbBit1E | .cbBit1H | .cbBit1L | .cbBit1AtHl | .cbBit1A | .cbBit2B | .cbBit2C
  | .cbBit2D | .cbBit2E | .cbBit2H | .cbBit2L | .cbBit2AtHl | .cbBit2A | .cbBit3B | .cbBit3C | .cbBit3D | .cbBit3E
  | .cbBit3H | .cbBit3L | .cbBit3AtHl | .cbBit3A | .cbBit4B | .cbBit4C | .cbBit4D | .cbBit4E | .cbBit4H | .cbBit4L
  | .cbBit4AtHl | .cbBit4A | .cbBit5B | .cbBit5C | .cbBit5D | .cbBit5E | .cbBit5H | .cbBit5L | .cbBit5AtHl
  | .cbBit5A | .cbBit6B | .cbBit6C | .cbBit6D | .cbBit6E | .cbBit6H | .cbBit6L | .cbBit6AtHl | .cbBit6A | .cbBit7B
  | .cbBit7C | .cbBit7D | .cbBit7E | .cbBit7H | .cbBit7L | .cbBit7AtHl | .cbBit7A =>
    { z := true, n := true, h := true }
  | .scf | .ccf =>
    { n := true, h := true, c := true }
  | .incA | .decA =>
    { regs := [.a], z := true, n := true, h := true }
  | .halt =>
    { halted := true }
  | .cpB | .cpC | .cpD | .cpE | .cpH | .cpL | .cpAtHl | .cpA | .cpN8 _ | .cbRlcAtHl | .cbRrcAtHl | .cbRlAtHl
  | .cbRrAtHl | .cbSlaAtHl | .cbSraAtHl | .cbSwapAtHl | .cbSrlAtHl =>
    { z := true, n := true, h := true, c := true }
  | .retNz | .callNzN16 _ | .rst00 | .retZ | .ret | .callZN16 _ | .callN16 _ | .rst08 | .retNc | .callNcN16 _
  | .rst10 | .retC | .callCN16 _ | .rst18 | .rst20 | .rst28 | .rst30 | .rst38 =>
    { sp := true, pc := true }
  | .popBc =>
    { regs := [.b, .c], sp := true }
  | .popDe =>
    { regs := [.d, .e], sp := true }
  | .reti =>
    { sp := true, pc := true, ime := true }
  | .popHl =>
    { regs := [.h, .l], sp := true }
  | .addSpE8 _ =>
    { z := true, n := true, h := true, c := true, sp := true }
  | .popAf =>
    { regs := [.a], z := true, n := true, h := true, c := true, sp := true }
  | .di | .ei =>
    { ime := true }
  | .ldHlSpE8 _ =>
    { regs := [.h, .l], z := true, n := true, h := true, c := true }
  | .cbRlcB | .cbRrcB | .cbRlB | .cbRrB | .cbSlaB | .cbSraB | .cbSwapB | .cbSrlB =>
    { regs := [.b], z := true, n := true, h := true, c := true }
  | .cbRlcC | .cbRrcC | .cbRlC | .cbRrC | .cbSlaC | .cbSraC | .cbSwapC | .cbSrlC =>
    { regs := [.c], z := true, n := true, h := true, c := true }
  | .cbRlcD | .cbRrcD | .cbRlD | .cbRrD | .cbSlaD | .cbSraD | .cbSwapD | .cbSrlD =>
    { regs := [.d], z := true, n := true, h := true, c := true }
  | .cbRlcE | .cbRrcE | .cbRlE | .cbRrE | .cbSlaE | .cbSraE | .cbSwapE | .cbSrlE =>
    { regs := [.e], z := true, n := true, h := true, c := true }
  | .cbRlcH | .cbRrcH | .cbRlH | .cbRrH | .cbSlaH | .cbSraH | .cbSwapH | .cbSrlH =>
    { regs := [.h], z := true, n := true, h := true, c := true }
  | .cbRlcL | .cbRrcL | .cbRlL | .cbRrL | .cbSlaL | .cbSraL | .cbSwapL | .cbSrlL =>
    { regs := [.l], z := true, n := true, h := true, c := true }

/-- A bus call without the byte it moves. -/
inductive Access
  | read (addr : Word)
  | write (addr : Word)
  deriving DecidableEq, Repr

/-- A bus call without the byte it moves. -/
def BusCall.access : BusCall → Access
  | .read addr _ => .read addr
  | .write addr _ => .write addr

/-- R206, R16: the data accesses each instruction makes after its bytes have been fetched, in order, from the
pseudocode of the rules of files 40 to 47 (R202 for the 16-bit ones, R1000 for the CB set). -/
def accesses (i : Instr) (s : State) : List Access :=
  match i with
  | .ldAtBcA =>
    [.write s.bc]
  | .ldAtN16Sp nn => [.write nn, .write (nn + 1)]
  | .ldAAtBc =>
    [.read s.bc]
  | .ldAtDeA =>
    [.write s.de]
  | .ldAAtDe =>
    [.read s.de]
  | .ldAtHlIncA | .ldAtHlDecA | .ldAtHlN8 _ | .ldAtHlB | .ldAtHlC | .ldAtHlD | .ldAtHlE | .ldAtHlH | .ldAtHlL
  | .ldAtHlA =>
    [.write s.hl]
  | .ldAAtHlInc | .ldAAtHlDec | .ldBAtHl | .ldCAtHl | .ldDAtHl | .ldEAtHl | .ldHAtHl | .ldLAtHl | .ldAAtHl
  | .addAAtHl | .adcAAtHl | .subAtHl | .sbcAAtHl | .andAtHl | .xorAtHl | .orAtHl | .cpAtHl | .cbBit0AtHl
  | .cbBit1AtHl | .cbBit2AtHl | .cbBit3AtHl | .cbBit4AtHl | .cbBit5AtHl | .cbBit6AtHl | .cbBit7AtHl =>
    [.read s.hl]
  | .incAtHl | .decAtHl | .cbRlcAtHl | .cbRrcAtHl | .cbRlAtHl | .cbRrAtHl | .cbSlaAtHl | .cbSraAtHl | .cbSwapAtHl
  | .cbSrlAtHl | .cbRes0AtHl | .cbRes1AtHl | .cbRes2AtHl | .cbRes3AtHl | .cbRes4AtHl | .cbRes5AtHl | .cbRes6AtHl
  | .cbRes7AtHl | .cbSet0AtHl | .cbSet1AtHl | .cbSet2AtHl | .cbSet3AtHl | .cbSet4AtHl | .cbSet5AtHl | .cbSet6AtHl
  | .cbSet7AtHl =>
    [.read s.hl, .write s.hl]
  | .retNz =>
    if condHolds .nz s.f then [.read s.sp, .read (s.sp + 1)] else []
  | .popBc | .ret | .popDe | .reti | .popHl | .popAf =>
    [.read s.sp, .read (s.sp + 1)]
  | .callNzN16 _ =>
    if condHolds .nz s.f then [.write (s.sp - 2), .write (s.sp - 2 + 1)] else []
  | .pushBc | .rst00 | .callN16 _ | .rst08 | .pushDe | .rst10 | .rst18 | .pushHl | .rst20 | .rst28 | .pushAf
  | .rst30 | .rst38 =>
    [.write (s.sp - 2), .write (s.sp - 2 + 1)]
  | .retZ =>
    if condHolds .z s.f then [.read s.sp, .read (s.sp + 1)] else []
  | .callZN16 _ =>
    if condHolds .z s.f then [.write (s.sp - 2), .write (s.sp - 2 + 1)] else []
  | .retNc =>
    if condHolds .nc s.f then [.read s.sp, .read (s.sp + 1)] else []
  | .callNcN16 _ =>
    if condHolds .nc s.f then [.write (s.sp - 2), .write (s.sp - 2 + 1)] else []
  | .retC =>
    if condHolds .c s.f then [.read s.sp, .read (s.sp + 1)] else []
  | .callCN16 _ =>
    if condHolds .c s.f then [.write (s.sp - 2), .write (s.sp - 2 + 1)] else []
  | .ldhAtN8A n => [.write (highPage n)]
  | .ldAtCA =>
    [.write (highPage s.c)]
  | .ldAtN16A nn => [.write nn]
  | .ldhAAtN8 n => [.read (highPage n)]
  | .ldAAtC =>
    [.read (highPage s.c)]
  | .ldAAtN16 nn => [.read nn]
  | .nop | .ldBcN16 _ | .incBc | .incB | .decB | .ldBN8 _ | .rlca | .addHlBc | .decBc | .incC | .decC | .ldCN8 _
  | .rrca | .stop _ | .ldDeN16 _ | .incDe | .incD | .decD | .ldDN8 _ | .rla | .jrE8 _ | .addHlDe | .decDe | .incE
  | .decE | .ldEN8 _ | .rra | .jrNzE8 _ | .ldHlN16 _ | .incHl | .incH | .decH | .ldHN8 _ | .daa | .jrZE8 _
  | .addHlHl | .decHl | .incL | .decL | .ldLN8 _ | .cpl | .jrNcE8 _ | .ldSpN16 _ | .incSp | .scf | .jrCE8 _
  | .addHlSp | .decSp | .incA | .decA | .ldAN8 _ | .ccf | .ldBB | .ldBC | .ldBD | .ldBE | .ldBH | .ldBL | .ldBA
  | .ldCB | .ldCC | .ldCD | .ldCE | .ldCH | .ldCL | .ldCA | .ldDB | .ldDC | .ldDD | .ldDE | .ldDH | .ldDL | .ldDA
  | .ldEB | .ldEC | .ldED | .ldEE | .ldEH | .ldEL | .ldEA | .ldHB | .ldHC | .ldHD | .ldHE | .ldHH | .ldHL | .ldHA
  | .ldLB | .ldLC | .ldLD | .ldLE | .ldLH | .ldLL | .ldLA | .halt | .ldAB | .ldAC | .ldAD | .ldAE | .ldAH | .ldAL
  | .ldAA | .addAB | .addAC | .addAD | .addAE | .addAH | .addAL | .addAA | .adcAB | .adcAC | .adcAD | .adcAE
  | .adcAH | .adcAL | .adcAA | .subB | .subC | .subD | .subE | .subH | .subL | .subA | .sbcAB | .sbcAC | .sbcAD
  | .sbcAE | .sbcAH | .sbcAL | .sbcAA | .andB | .andC | .andD | .andE | .andH | .andL | .andA | .xorB | .xorC
  | .xorD | .xorE | .xorH | .xorL | .xorA | .orB | .orC | .orD | .orE | .orH | .orL | .orA | .cpB | .cpC | .cpD
  | .cpE | .cpH | .cpL | .cpA | .jpNzN16 _ | .jpN16 _ | .addAN8 _ | .jpZN16 _ | .adcAN8 _ | .jpNcN16 _
  | .illegalD3 | .subN8 _ | .jpCN16 _ | .illegalDB | .illegalDD | .sbcAN8 _ | .illegalE3 | .illegalE4 | .andN8 _
  | .addSpE8 _ | .jpHl | .illegalEB | .illegalEC | .illegalED | .xorN8 _ | .di | .illegalF4 | .orN8 _
  | .ldHlSpE8 _ | .ldSpHl | .ei | .illegalFC | .illegalFD | .cpN8 _ | .cbRlcB | .cbRlcC | .cbRlcD | .cbRlcE
  | .cbRlcH | .cbRlcL | .cbRlcA | .cbRrcB | .cbRrcC | .cbRrcD | .cbRrcE | .cbRrcH | .cbRrcL | .cbRrcA | .cbRlB
  | .cbRlC | .cbRlD | .cbRlE | .cbRlH | .cbRlL | .cbRlA | .cbRrB | .cbRrC | .cbRrD | .cbRrE | .cbRrH | .cbRrL
  | .cbRrA | .cbSlaB | .cbSlaC | .cbSlaD | .cbSlaE | .cbSlaH | .cbSlaL | .cbSlaA | .cbSraB | .cbSraC | .cbSraD
  | .cbSraE | .cbSraH | .cbSraL | .cbSraA | .cbSwapB | .cbSwapC | .cbSwapD | .cbSwapE | .cbSwapH | .cbSwapL
  | .cbSwapA | .cbSrlB | .cbSrlC | .cbSrlD | .cbSrlE | .cbSrlH | .cbSrlL | .cbSrlA | .cbBit0B | .cbBit0C
  | .cbBit0D | .cbBit0E | .cbBit0H | .cbBit0L | .cbBit0A | .cbBit1B | .cbBit1C | .cbBit1D | .cbBit1E | .cbBit1H
  | .cbBit1L | .cbBit1A | .cbBit2B | .cbBit2C | .cbBit2D | .cbBit2E | .cbBit2H | .cbBit2L | .cbBit2A | .cbBit3B
  | .cbBit3C | .cbBit3D | .cbBit3E | .cbBit3H | .cbBit3L | .cbBit3A | .cbBit4B | .cbBit4C | .cbBit4D | .cbBit4E
  | .cbBit4H | .cbBit4L | .cbBit4A | .cbBit5B | .cbBit5C | .cbBit5D | .cbBit5E | .cbBit5H | .cbBit5L | .cbBit5A
  | .cbBit6B | .cbBit6C | .cbBit6D | .cbBit6E | .cbBit6H | .cbBit6L | .cbBit6A | .cbBit7B | .cbBit7C | .cbBit7D
  | .cbBit7E | .cbBit7H | .cbBit7L | .cbBit7A | .cbRes0B | .cbRes0C | .cbRes0D | .cbRes0E | .cbRes0H | .cbRes0L
  | .cbRes0A | .cbRes1B | .cbRes1C | .cbRes1D | .cbRes1E | .cbRes1H | .cbRes1L | .cbRes1A | .cbRes2B | .cbRes2C
  | .cbRes2D | .cbRes2E | .cbRes2H | .cbRes2L | .cbRes2A | .cbRes3B | .cbRes3C | .cbRes3D | .cbRes3E | .cbRes3H
  | .cbRes3L | .cbRes3A | .cbRes4B | .cbRes4C | .cbRes4D | .cbRes4E | .cbRes4H | .cbRes4L | .cbRes4A | .cbRes5B
  | .cbRes5C | .cbRes5D | .cbRes5E | .cbRes5H | .cbRes5L | .cbRes5A | .cbRes6B | .cbRes6C | .cbRes6D | .cbRes6E
  | .cbRes6H | .cbRes6L | .cbRes6A | .cbRes7B | .cbRes7C | .cbRes7D | .cbRes7E | .cbRes7H | .cbRes7L | .cbRes7A
  | .cbSet0B | .cbSet0C | .cbSet0D | .cbSet0E | .cbSet0H | .cbSet0L | .cbSet0A | .cbSet1B | .cbSet1C | .cbSet1D
  | .cbSet1E | .cbSet1H | .cbSet1L | .cbSet1A | .cbSet2B | .cbSet2C | .cbSet2D | .cbSet2E | .cbSet2H | .cbSet2L
  | .cbSet2A | .cbSet3B | .cbSet3C | .cbSet3D | .cbSet3E | .cbSet3H | .cbSet3L | .cbSet3A | .cbSet4B | .cbSet4C
  | .cbSet4D | .cbSet4E | .cbSet4H | .cbSet4L | .cbSet4A | .cbSet5B | .cbSet5C | .cbSet5D | .cbSet5E | .cbSet5H
  | .cbSet5L | .cbSet5A | .cbSet6B | .cbSet6C | .cbSet6D | .cbSet6E | .cbSet6H | .cbSet6L | .cbSet6A | .cbSet7B
  | .cbSet7C | .cbSet7D | .cbSet7E | .cbSet7H | .cbSet7L | .cbSet7A => []

/-- The addresses an instruction stores to, one byte each. -/
def storedAddresses (i : Instr) (s : State) : List Word :=
  (accesses i s).filterMap fun acc =>
    match acc with
    | .read _ => none
    | .write addr => some addr

end Sys2Proof.Machine
end

