-- ==== Sys2Proof/Certificates/Slice0/Obligations.lean ====
section
/-! DEFINITION. The statements about the model, each from a numbered rule of the spec. A result statement gives the bytes
of an instruction as the spec's bit pattern and the whole state after it, so that everything it does not name is
unchanged: every other register and flag, IME, Halted, Stopped, the pending outside events, and every byte of memory.
`len` is `STOP_LENGTH`, which only STOP reads. -/

open Sys2Proof Sys2Proof.Machine

/-! ### Encoding -/

/-- R303 to R307: words written out from the spec's encodings decode to the instructions they stand for. -/
def Obligations.WordsOfTheSpecDecode : Prop :=
  decode .two [0x3E#8, 0x05#8, 0xC6#8] = .ok (.ldAN8 0x05#8, [0xC6#8]) ∧
  decode .two [0x27#8] = .ok (.daa, []) ∧
  decode .two [0x76#8] = .ok (.halt, []) ∧
  decode .two [0x66#8] = .ok (.ldHAtHl, []) ∧
  decode .two [0x8B#8] = .ok (.adcAE, []) ∧
  decode .two [0x21#8, 0x34#8, 0x12#8] = .ok (.ldHlN16 0x1234#16, []) ∧
  decode .two [0x30#8, 0x05#8] = .ok (.jrNcE8 0x05#8, []) ∧
  decode .two [0xCD#8, 0x34#8, 0x12#8] = .ok (.callN16 0x1234#16, []) ∧
  decode .two [0xCB#8, 0x65#8] = .ok (.cbBit4L, []) ∧
  decode .two [0xEF#8] = .ok (.rst28, []) ∧
  decode .two [0x10#8, 0x00#8] = .ok (.stop 0x00#8, []) ∧
  decode .one [0x10#8, 0x00#8] = .ok (.stop 0x00#8, [0x00#8])

/-- Decoding an instruction's bytes gives the instruction back, whatever bytes follow it. -/
def Obligations.DecodeOfEncodeIsTheInstruction : Prop :=
  ∀ (len : StopLength) (i : Instr) (rest : List Byte), i.wellFormed len = true →
    decode len (encode len i ++ rest) = .ok (i, rest)

/-- Every list of bytes has at most one reading: what the decoder reads from it encodes to it. -/
def Obligations.EncodeOfDecodeIsTheBytes : Prop :=
  ∀ (len : StopLength) (bs rest : List Byte) (i : Instr), decode len bs = .ok (i, rest) →
    i.wellFormed len = true ∧ bs = encode len i ++ rest

/-- R321: "Opcode dispatch is total": the decoder rejects only a list that ends before its instruction does. -/
def Obligations.DecodeRejectsOnlyTruncatedBytes : Prop :=
  ∀ (len : StopLength) (bs : List Byte),
    (∃ err, decode len bs = .error err) ↔ ∀ op rest, bs = op :: rest → bs.length < instrLength len op

/-- R320, R905, R1201: the illegal opcodes are exactly the eleven values; each is one byte long; it sets Stopped and
changes nothing else, PC staying at the address after the opcode, where the fetch left it. -/
def Obligations.IllegalOpcodesAreElevenAndStopTheCore : Prop :=
  ∀ (len : StopLength) (op b1 b2 : Byte),
    ((decodeOpcode len op b1 b2).isIllegal = true ↔
      op ∈ [0xD3#8, 0xDB#8, 0xDD#8, 0xE3#8, 0xE4#8, 0xEB#8, 0xEC#8, 0xED#8, 0xF4#8, 0xFC#8, 0xFD#8]) ∧
    ((decodeOpcode len op b1 b2).isIllegal = true → instrLength len op = 1 ∧
      ∀ s : State, exec (decodeOpcode len op b1 b2) s = .next { s with stopped := true })

/-- R307: 0x76, and no other opcode, is HALT: it sets Halted, stores nothing and raises nothing. -/
def Obligations.Opcode76IsHaltAndNotALoad : Prop :=
  ∀ (len : StopLength) (op b1 b2 : Byte),
    (decodeOpcode len op b1 b2 = .halt ↔ op = 0x76#8) ∧
    ∀ s : State, exec .halt s = .next { s with halted := true }

/-! ### The step -/

/-- R300, R210: on the RAM bus, a step that is a tick of a Running core runs the instruction whose bytes stand at PC,
after its bytes have been read in order and PC has passed them. -/
def Obligations.StepRunsTheDecodedInstruction : Prop :=
  ∀ (s0 s : State) (i : Instr) (rest : List Byte),
    s0.coreTurn = some s → s.running = true → s.bus.answers = [] →
    decode Config.stopLength [s.peek s.pc, s.peek (s.pc + 1), s.peek (s.pc + 2)] = .ok (i, rest) →
    step s0 = exec i
      { s with
        pc := s.pc + BitVec.ofNat 16 (encode Config.stopLength i).length
        bus :=
          { s.bus with
            calls :=
              ((List.range (encode Config.stopLength i).length).map fun k =>
                BusCall.read (s.pc + BitVec.ofNat 16 k) (s.peek (s.pc + BitVec.ofNat 16 k))).reverse ++ s.bus.calls } }

/-- R201, R300: on any bus, a step that is a tick of a Running core runs the instruction whose bytes the bus returns to
the fetches, whatever the RAM holds: the answers are taken one for one, in order. -/
def Obligations.StepRunsTheInstructionTheBusAnswers : Prop :=
  ∀ (s0 s : State) (i : Instr) (bs more : List Byte),
    s0.coreTurn = some s → s.running = true → s.bus.answers = bs ++ more →
    decode Config.stopLength bs = .ok (i, []) →
    ∃ reads : List BusCall,
      reads = ((List.range bs.length).map fun k =>
        BusCall.read (s.pc + BitVec.ofNat 16 k) (bs.getD k 0x00#8)).reverse ∧
      step s0 = exec i
        { s with
          pc := s.pc + BitVec.ofNat 16 bs.length
          bus := { s.bus with answers := more, calls := reads ++ s.bus.calls } }

/-- R1207, R1208, R300: while one of Halted and Stopped is set, a step that is a tick makes no bus access and changes
nothing, PC included. -/
def Obligations.HaltedOrStoppedStepChangesNothing : Prop :=
  ∀ s0 s : State, s0.coreTurn = some s → (s.halted != s.stopped) = true → step s0 = .next s

/-- R105, R300: a step is refused exactly where it is a tick of a state with both Halted and Stopped set, and there by
that name; in every other state it answers a next state, and never a fault (R1202). -/
def Obligations.StepIsRefusedOnlyWhenHaltedAndStopped : Prop :=
  ∀ s : State,
    (s.coreTurn.isSome = true ∧ s.halted = true ∧ s.stopped = true → step s = .refused .haltedAndStopped) ∧
    (¬ (s.coreTurn.isSome = true ∧ s.halted = true ∧ s.stopped = true) → ∃ t, step s = .next t)

/-- R300: an instruction "always completes once started": every instruction answers a next state in every state. -/
def Obligations.EveryInstructionCompletes : Prop :=
  ∀ (i : Instr) (s : State), ∃ t, exec i s = .next t

/-! ### 8-bit loads -/

/-- R400, R401, R402: LD between 8-bit registers and the byte at HL. -/
def Obligations.LoadsBetweenRegistersAndMemoryAtHl : Prop :=
  ∀ (len : StopLength) (y z : Reg8) (s : State),
    encode len (.load y.r8 z.r8) = [0b01#2 ++ y.r8.code ++ z.r8.code] ∧
    exec (.load y.r8 z.r8) s = .next (s.setReg y (s.reg z)) ∧
    encode len (.load y.r8 .atHl) = [0b01#2 ++ y.r8.code ++ 0b110#3] ∧
    exec (.load y.r8 .atHl) s = .next ((s.afterRead s.hl).setReg y (s.answer s.hl)) ∧
    encode len (.load .atHl z.r8) = [0b01110#5 ++ z.r8.code] ∧
    exec (.load .atHl z.r8) s = .next (s.busWrite s.hl (s.reg z))

/-- R403, R404: LD of an immediate to an 8-bit register or to the byte at HL. -/
def Obligations.ImmediateByteLoads : Prop :=
  ∀ (len : StopLength) (y : Reg8) (n : Byte) (s : State),
    encode len (.loadImm y.r8 n) = [0b00#2 ++ y.r8.code ++ 0b110#3, n] ∧
    exec (.loadImm y.r8 n) s = .next (s.setReg y n) ∧
    encode len (.ldAtHlN8 n) = [0x36#8, n] ∧
    exec (.ldAtHlN8 n) s = .next (s.busWrite s.hl n)

/-- R405 to R408: A is stored at the address in BC, DE or HL; (HL+) and (HL-) then step HL by one modulo 65536. -/
def Obligations.IndirectStoresOfA : Prop :=
  ∀ (len : StopLength) (s : State),
    encode len .ldAtBcA = [0x02#8] ∧ exec .ldAtBcA s = .next (s.busWrite s.bc s.a) ∧
    encode len .ldAtDeA = [0x12#8] ∧ exec .ldAtDeA s = .next (s.busWrite s.de s.a) ∧
    encode len .ldAtHlIncA = [0x22#8] ∧
    exec .ldAtHlIncA s =
      .next { s.busWrite s.hl s.a with h := highByte (s.hl + 1), l := lowByte (s.hl + 1) } ∧
    encode len .ldAtHlDecA = [0x32#8] ∧
    exec .ldAtHlDecA s =
      .next { s.busWrite s.hl s.a with h := highByte (s.hl - 1), l := lowByte (s.hl - 1) }

/-- R409 to R412: A is loaded from the address in BC, DE or HL; (HL+) and (HL-) then step HL by one modulo 65536. -/
def Obligations.IndirectLoadsOfA : Prop :=
  ∀ (len : StopLength) (s : State),
    encode len .ldAAtBc = [0x0A#8] ∧ exec .ldAAtBc s = .next { s.afterRead s.bc with a := s.answer s.bc } ∧
    encode len .ldAAtDe = [0x1A#8] ∧ exec .ldAAtDe s = .next { s.afterRead s.de with a := s.answer s.de } ∧
    encode len .ldAAtHlInc = [0x2A#8] ∧
    exec .ldAAtHlInc s =
      .next { s.afterRead s.hl with
        a := s.answer s.hl, h := highByte (s.hl + 1), l := lowByte (s.hl + 1) } ∧
    encode len .ldAAtHlDec = [0x3A#8] ∧
    exec .ldAAtHlDec s =
      .next { s.afterRead s.hl with
        a := s.answer s.hl, h := highByte (s.hl - 1), l := lowByte (s.hl - 1) }

/-- R413 to R418: A is stored at, or loaded from, an absolute address, or an address of the page from 0xFF00 on. -/
def Obligations.AbsoluteAndHighPageLoads : Prop :=
  ∀ (len : StopLength) (nn : Word) (n : Byte) (s : State),
    encode len (.ldAtN16A nn) = [0xEA#8, lowByte nn, highByte nn] ∧
    exec (.ldAtN16A nn) s = .next (s.busWrite nn s.a) ∧
    encode len (.ldAAtN16 nn) = [0xFA#8, lowByte nn, highByte nn] ∧
    exec (.ldAAtN16 nn) s = .next { s.afterRead nn with a := s.answer nn } ∧
    encode len (.ldhAtN8A n) = [0xE0#8, n] ∧
    exec (.ldhAtN8A n) s = .next (s.busWrite (0xFF#8 ++ n) s.a) ∧
    encode len (.ldhAAtN8 n) = [0xF0#8, n] ∧
    exec (.ldhAAtN8 n) s = .next { s.afterRead (0xFF#8 ++ n) with a := s.answer (0xFF#8 ++ n) } ∧
    encode len .ldAtCA = [0xE2#8] ∧
    exec .ldAtCA s = .next (s.busWrite (0xFF#8 ++ s.c) s.a) ∧
    encode len .ldAAtC = [0xF2#8] ∧
    exec .ldAAtC s = .next { s.afterRead (0xFF#8 ++ s.c) with a := s.answer (0xFF#8 ++ s.c) }

/-! ### 16-bit loads and the stack -/

/-- R502, R503, R504: LD rr,n16; LD (n16),SP, low byte first; LD SP,HL. -/
def Obligations.WordLoads : Prop :=
  ∀ (len : StopLength) (p : Rp) (nn : Word) (s : State),
    encode len (.loadRp p nn) = [0b00#2 ++ p.code ++ 0b0001#4, lowByte nn, highByte nn] ∧
    exec (.loadRp p nn) s = .next (s.setRp p nn) ∧
    encode len (.ldAtN16Sp nn) = [0x08#8, lowByte nn, highByte nn] ∧
    exec (.ldAtN16Sp nn) s = .next ((s.busWrite nn (lowByte s.sp)).busWrite (nn + 1) (highByte s.sp)) ∧
    encode len .ldSpHl = [0xF9#8] ∧
    exec .ldSpHl s = .next { s with sp := s.hl }

/-- R500, R505, R506: PUSH: SP falls by 2 modulo 65536; the low byte goes to the new SP, then the high byte to the
address after it. AF's low byte holds Z, N, H, C in bits 7 to 4 and zeros below. -/
def Obligations.PushStoresThePairBelowSp : Prop :=
  ∀ (len : StopLength) (q : Rp2) (s : State),
    encode len (.push q) = [0b11#2 ++ q.code ++ 0b0101#4] ∧
    exec (.push q) s =
      .next ({ s with sp := s.sp - 2 }.busWrite (s.sp - 2) (lowByte (s.rp2 q))
        |>.busWrite (s.sp - 2 + 1) (highByte (s.rp2 q))) ∧
    highByte (s.rp2 .af) = s.a ∧
    lowByte (s.rp2 .af) =
      BitVec.ofBool s.f.z ++ BitVec.ofBool s.f.n ++ BitVec.ofBool s.f.h ++ BitVec.ofBool s.f.c ++ 0b0000#4

/-- R501, R507: POP BC, DE and HL: the low byte is read at SP, then the high byte at SP + 1; SP rises by 2. -/
def Obligations.PopLoadsThePairFromSp : Prop :=
  ∀ (len : StopLength) (s : State) (s1 s2 : State) (lo hi : Byte),
    s1 = s.afterRead s.sp → lo = s.answer s.sp → s2 = s1.afterRead (s.sp + 1) → hi = s1.answer (s.sp + 1) →
    encode len .popBc = [0xC1#8] ∧ exec .popBc s = .next { s2 with b := hi, c := lo, sp := s.sp + 2 } ∧
    encode len .popDe = [0xD1#8] ∧ exec .popDe s = .next { s2 with d := hi, e := lo, sp := s.sp + 2 } ∧
    encode len .popHl = [0xE1#8] ∧ exec .popHl s = .next { s2 with h := hi, l := lo, sp := s.sp + 2 }

/-- R508: POP AF: A takes the high byte, Z, N, H and C bits 7 to 4 of the low byte; its bits 3 to 0 are discarded. -/
def Obligations.PopAfLoadsAAndTheFlags : Prop :=
  ∀ (len : StopLength) (s : State) (s1 s2 : State) (lo hi : Byte),
    s1 = s.afterRead s.sp → lo = s.answer s.sp → s2 = s1.afterRead (s.sp + 1) → hi = s1.answer (s.sp + 1) →
    encode len .popAf = [0xF1#8] ∧
    exec .popAf s = .next { s2 with
      a := hi,
      f := { z := lo.getLsbD 7, n := lo.getLsbD 6, h := lo.getLsbD 5, c := lo.getLsbD 4 },
      sp := s.sp + 2 }

/-- R501, R508: on the RAM bus, PUSH rr then POP rr gives the pair its value back and leaves SP, and every register and
flag besides, as they were. -/
def Obligations.PushThenPopRestoresThePair : Prop :=
  ∀ (q : Rp2) (s : State), s.memWf = true → s.bus.answers = [] →
    ∃ t bus, exec (.push q) s = .next t ∧ exec (.pop q) t = .next { s with bus := bus }

/-! ### 8-bit arithmetic and logic -/

/-- R602 to R605, R600: ADD and ADC of an `r8` operand and of an immediate. -/
def Obligations.AddAndAdcSetAAndTheFlags : Prop :=
  ∀ (len : StopLength) (m : R8) (n : Byte) (s : State) (op : AluOp) (cin : Nat),
    op = .add ∧ cin = 0 ∨ op = .adc ∧ cin = s.f.c.toNat →
    ∀ (after : Byte → State → State),
    after = (fun v t => { t with
      a := BitVec.ofNat 8 (s.a.toNat + v.toNat + cin),
      f := { z := (s.a.toNat + v.toNat + cin) % 256 == 0, n := false,
             h := decide (s.a.toNat % 16 + v.toNat % 16 + cin > 0xF),
             c := decide (s.a.toNat + v.toNat + cin > 0xFF) } }) →
    encode len (.alu op m) = [0b10#2 ++ op.code ++ m.code] ∧
    exec (.alu op m) s = .next (after (s.locValue (s.resolve m)) (s.afterLocRead (s.resolve m))) ∧
    encode len (.aluImm op n) = [0b11#2 ++ op.code ++ 0b110#3, n] ∧
    exec (.aluImm op n) s = .next (after n s)

/-- R606 to R609, R601: SUB and SBC of an `r8` operand and of an immediate. -/
def Obligations.SubAndSbcSetAAndTheFlags : Prop :=
  ∀ (len : StopLength) (m : R8) (n : Byte) (s : State) (op : AluOp) (cin : Nat),
    op = .sub ∧ cin = 0 ∨ op = .sbc ∧ cin = s.f.c.toNat →
    ∀ (after : Byte → State → State),
    after = (fun v t => { t with
      a := BitVec.ofInt 8 ((s.a.toNat : Int) - v.toNat - cin),
      f := { z := ((s.a.toNat : Int) - v.toNat - cin) % 256 == 0, n := true,
             h := decide (s.a.toNat % 16 < v.toNat % 16 + cin),
             c := decide (s.a.toNat < v.toNat + cin) } }) →
    encode len (.alu op m) = [0b10#2 ++ op.code ++ m.code] ∧
    exec (.alu op m) s = .next (after (s.locValue (s.resolve m)) (s.afterLocRead (s.resolve m))) ∧
    encode len (.aluImm op n) = [0b11#2 ++ op.code ++ 0b110#3, n] ∧
    exec (.aluImm op n) s = .next (after n s)

/-- R616, R617: CP leaves A and sets the flags of A minus the operand, the old N and C aside. -/
def Obligations.CpSetsOnlyTheFlags : Prop :=
  ∀ (len : StopLength) (m : R8) (n : Byte) (s : State) (after : Byte → State → State),
    after = (fun v t => { t with
      f := { z := s.a == v, n := true, h := decide (s.a.toNat % 16 < v.toNat % 16), c := decide (s.a.toNat < v.toNat) } }) →
    encode len (.alu .cp m) = [0b10111#5 ++ m.code] ∧
    exec (.alu .cp m) s = .next (after (s.locValue (s.resolve m)) (s.afterLocRead (s.resolve m))) ∧
    encode len (.aluImm .cp n) = [0xFE#8, n] ∧
    exec (.aluImm .cp n) s = .next (after n s)

/-- R610 to R615: AND, XOR and OR of an `r8` operand and of an immediate. -/
def Obligations.LogicSetsAAndTheFlags : Prop :=
  ∀ (len : StopLength) (m : R8) (n : Byte) (s : State) (op : AluOp) (f : Byte → Byte) (h : Bool),
    op = .and ∧ f = (s.a &&& ·) ∧ h = true ∨ op = .xor ∧ f = (s.a ^^^ ·) ∧ h = false ∨
      op = .or ∧ f = (s.a ||| ·) ∧ h = false →
    encode len (.alu op m) = [0b10#2 ++ op.code ++ m.code] ∧
    exec (.alu op m) s = .next { s.afterLocRead (s.resolve m) with
      a := f (s.locValue (s.resolve m)),
      f := { z := f (s.locValue (s.resolve m)) == 0x00#8, n := false, h := h, c := false } } ∧
    encode len (.aluImm op n) = [0b11#2 ++ op.code ++ 0b110#3, n] ∧
    exec (.aluImm op n) s = .next { s with a := f n, f := { z := f n == 0x00#8, n := false, h := h, c := false } }

/-- R618, R619: INC and DEC of an 8-bit register and of the byte at HL; C is unchanged. The byte at HL is read once
and written once, at one address. -/
def Obligations.IncAndDecStepTheOperand : Prop :=
  ∀ (len : StopLength) (r : Reg8) (s : State) (incF decF : Byte → Flags),
    incF = (fun v => { s.f with z := v + 1 == 0x00#8, n := false, h := v.toNat % 16 == 0xF }) →
    decF = (fun v => { s.f with z := v - 1 == 0x00#8, n := true, h := v.toNat % 16 == 0x0 }) →
    encode len (.inc r.r8) = [0b00#2 ++ r.r8.code ++ 0b100#3] ∧
    exec (.inc r.r8) s = .next { s.setReg r (s.reg r + 1) with f := incF (s.reg r) } ∧
    encode len .incAtHl = [0x34#8] ∧
    exec .incAtHl s =
      .next { (s.afterRead s.hl).busWrite s.hl (s.answer s.hl + 1) with f := incF (s.answer s.hl) } ∧
    encode len (.dec r.r8) = [0b00#2 ++ r.r8.code ++ 0b101#3] ∧
    exec (.dec r.r8) s = .next { s.setReg r (s.reg r - 1) with f := decF (s.reg r) } ∧
    encode len .decAtHl = [0x35#8] ∧
    exec .decAtHl s =
      .next { (s.afterRead s.hl).busWrite s.hl (s.answer s.hl - 1) with f := decF (s.answer s.hl) }

/-- R117 (95 W7): after ADD, ADC, SUB, SBC, AND, XOR, OR and DAA, Z is set iff the result byte, now in A, is 0. -/
def Obligations.ZeroFlagReflectsTheResultInA : Prop :=
  ∀ (i : Instr) (s : State),
    (i = .daa ∨ ∃ op, op ≠ .cp ∧ ((∃ m, i = .alu op m) ∨ ∃ n, i = .aluImm op n)) →
    ∃ t, exec i s = .next t ∧ t.f.z = (t.a == 0x00#8)

/-- R119: for every addition and subtraction, INC, DEC and the SP-relative sum among them, H is bit 4 of
`a ^ b ^ result`, and bit 12 for ADD HL,rr. -/
def Obligations.HalfCarryIsTheXorBit : Prop :=
  (∀ (a b : Byte) (c : Bool), (add8 a b c).flags.h = (a ^^^ b ^^^ (add8 a b c).value).getLsbD 4) ∧
  (∀ (a b : Byte) (c : Bool), (sub8 a b c).flags.h = (a ^^^ b ^^^ (sub8 a b c).value).getLsbD 4) ∧
  (∀ (v : Byte) (f : Flags), (inc8 v f).flags.h = (v ^^^ 0x01#8 ^^^ (inc8 v f).value).getLsbD 4) ∧
  (∀ (v : Byte) (f : Flags), (dec8 v f).flags.h = (v ^^^ 0x01#8 ^^^ (dec8 v f).value).getLsbD 4) ∧
  (∀ (sp : Word) (e : Byte), (addSpE16 sp e).flags.h = (sp ^^^ sext16 e ^^^ (addSpE16 sp e).value).getLsbD 4) ∧
  (∀ (hl v : Word) (f : Flags), (addHl16 hl v f).flags.h = (hl ^^^ v ^^^ (addHl16 hl v f).value).getLsbD 12)

/-! ### Accumulator rotates, DAA and flag operations -/

/-- R700 to R703: RLCA, RRCA, RLA and RRA rotate A by one and clear Z, N and H; C is the bit that left A. -/
def Obligations.AccumulatorRotates : Prop :=
  ∀ (len : StopLength) (s : State) (fl : Bool → Flags),
    fl = (fun c => { z := false, n := false, h := false, c := c }) →
    encode len .rlca = [0x07#8] ∧
    exec .rlca s = .next { s with a := s.a.rotateLeft 1, f := fl (s.a.getLsbD 7) } ∧
    encode len .rrca = [0x0F#8] ∧
    exec .rrca s = .next { s with a := s.a.rotateRight 1, f := fl (s.a.getLsbD 0) } ∧
    encode len .rla = [0x17#8] ∧
    exec .rla s = .next { s with a := s.a.extractLsb' 0 7 ++ BitVec.ofBool s.f.c, f := fl (s.a.getLsbD 7) } ∧
    encode len .rra = [0x1F#8] ∧
    exec .rra s = .next { s with a := BitVec.ofBool s.f.c ++ s.a.extractLsb' 1 7, f := fl (s.a.getLsbD 0) }

/-- R704: DAA as the document states it: after an addition the low step, then the high step on the value after it at
full width; after a subtraction the two steps from H and C. N is unchanged and H cleared. -/
def Obligations.DaaAdjustsA : Prop :=
  ∀ (len : StopLength) (s : State), encode len .daa = [0x27#8] ∧
    (s.f.n = false → ∀ (a1 a2 : Nat) (c : Bool),
      a1 = s.a.toNat + (if s.f.h = true ∨ s.a.toNat % 16 > 9 then 0x06 else 0) →
      c = (s.f.c || decide (a1 > 0x99)) → a2 = a1 + (if c then 0x60 else 0) →
      exec .daa s = .next { s with
        a := BitVec.ofNat 8 a2, f := { z := a2 % 256 == 0, n := false, h := false, c := c } }) ∧
    (s.f.n = true → ∀ a2 : Int,
      a2 = (s.a.toNat : Int) - (if s.f.h then 0x06 else 0) - (if s.f.c then 0x60 else 0) →
      exec .daa s = .next { s with
        a := BitVec.ofInt 8 a2, f := { z := a2 % 256 == 0, n := true, h := false, c := s.f.c } })

/-- R704, R605: after ADC of two BCD bytes, DAA leaves the BCD digits of their decimal sum with the carry, and C the
decimal carry, so that additions chain (95 P4). -/
def Obligations.DaaCorrectsDecimalAddition : Prop :=
  ∀ (x y : Nat) (s : State), x < 100 → y < 100 → s.a = bcd x →
    ∃ t u, exec (.adcAN8 (bcd y)) s = .next t ∧ exec .daa t = .next u ∧
      u.a = bcd ((x + y + s.f.c.toNat) % 100) ∧ u.f.c = decide (100 ≤ x + y + s.f.c.toNat)

/-- R704, R609: after SBC of two BCD bytes, DAA leaves the BCD digits of their decimal difference with the borrow,
modulo 100, and C the decimal borrow. -/
def Obligations.DaaCorrectsDecimalSubtraction : Prop :=
  ∀ (x y : Nat) (s : State), x < 100 → y < 100 → s.a = bcd x →
    ∃ t u, exec (.sbcAN8 (bcd y)) s = .next t ∧ exec .daa t = .next u ∧
      u.a = bcd ((100 + x - y - s.f.c.toNat) % 100) ∧ u.f.c = decide (x < y + s.f.c.toNat)

/-- R705, R706, R707: CPL, SCF and CCF. -/
def Obligations.ComplementAndCarryOperations : Prop :=
  ∀ (len : StopLength) (s : State),
    encode len .cpl = [0x2F#8] ∧
    exec .cpl s = .next { s with a := ~~~s.a, f := { s.f with n := true, h := true } } ∧
    encode len .scf = [0x37#8] ∧
    exec .scf s = .next { s with f := { z := s.f.z, n := false, h := false, c := true } } ∧
    encode len .ccf = [0x3F#8] ∧
    exec .ccf s = .next { s with f := { z := s.f.z, n := false, h := false, c := !s.f.c } }

/-! ### 16-bit arithmetic -/

/-- R801, R802, R803: ADD HL,rr; INC rr and DEC rr, which change no flag. -/
def Obligations.WordArithmetic : Prop :=
  ∀ (len : StopLength) (p : Rp) (s : State) (sum : Nat), sum = s.hl.toNat + (s.rp p).toNat →
    encode len (.addHl p) = [0b00#2 ++ p.code ++ 0b1001#4] ∧
    exec (.addHl p) s = .next { s with
      h := highByte (BitVec.ofNat 16 sum), l := lowByte (BitVec.ofNat 16 sum),
      f := { z := s.f.z, n := false,
             h := decide (s.hl.toNat % 0x1000 + (s.rp p).toNat % 0x1000 > 0x0FFF), c := decide (sum > 0xFFFF) } } ∧
    encode len (.incRp p) = [0b00#2 ++ p.code ++ 0b0011#4] ∧
    exec (.incRp p) s = .next (s.setRp p (s.rp p + 1)) ∧
    encode len (.decRp p) = [0b00#2 ++ p.code ++ 0b1011#4] ∧
    exec (.decRp p) s = .next (s.setRp p (s.rp p - 1))

/-- R800, R804, R805: SP plus a signed displacement, modulo 65536, to SP or to HL. H and C come from the low byte of SP
plus the displacement byte taken unsigned; Z and N are cleared. -/
def Obligations.SpRelativeArithmetic : Prop :=
  ∀ (len : StopLength) (e : Byte) (s : State) (r : Word) (f : Flags),
    r = BitVec.ofInt 16 ((s.sp.toNat : Int) + e.toInt) →
    f = { z := false, n := false, h := decide (s.sp.toNat % 16 + e.toNat % 16 > 0xF),
          c := decide (s.sp.toNat % 256 + e.toNat > 0xFF) } →
    encode len (.addSpE8 e) = [0xE8#8, e] ∧
    exec (.addSpE8 e) s = .next { s with sp := r, f := f } ∧
    encode len (.ldHlSpE8 e) = [0xF8#8, e] ∧
    exec (.ldHlSpE8 e) s = .next { s with h := highByte r, l := lowByte r, f := f }

/-! ### CPU control -/

/-- R900 to R904: NOP changes nothing, HALT sets Halted, STOP sets Stopped, DI clears IME, EI sets it. STOP is encoded
with an ignored second byte of any value under `STOP_LENGTH` 2 and without one under 1; that the term carries this byte
as its operand is the model's choice (log entry 7). -/
def Obligations.CpuControl : Prop :=
  ∀ (ignored : Byte) (s : State),
    encode .two .nop = [0x00#8] ∧ exec .nop s = .next s ∧
    encode .two .halt = [0x76#8] ∧ exec .halt s = .next { s with halted := true } ∧
    encode .two (.stop ignored) = [0x10#8, ignored] ∧ encode .one (.stop ignored) = [0x10#8] ∧
    exec (.stop ignored) s = .next { s with stopped := true } ∧
    encode .two .di = [0xF3#8] ∧ exec .di s = .next { s with ime := false } ∧
    encode .two .ei = [0xFB#8] ∧ exec .ei s = .next { s with ime := true }

/-! ### The CB-prefixed set -/

/-- R1000 to R1008: the rotates, the shifts and SWAP on an 8-bit register and on the byte at HL, which is read once
and written once at one address. Z is set iff the result is 0; N and H are cleared; C is the bit shifted out. -/
def Obligations.RotatesAndShifts : Prop :=
  ∀ (len : StopLength) (op : ShiftOp) (r : Reg8) (s : State) (val : Byte → Byte) (out : Byte → Bool),
    op = .rlc ∧ val = (·.rotateLeft 1) ∧ out = (·.getLsbD 7) ∨
    op = .rrc ∧ val = (·.rotateRight 1) ∧ out = (·.getLsbD 0) ∨
    op = .rl ∧ val = (fun v => v.extractLsb' 0 7 ++ BitVec.ofBool s.f.c) ∧ out = (·.getLsbD 7) ∨
    op = .rr ∧ val = (fun v => BitVec.ofBool s.f.c ++ v.extractLsb' 1 7) ∧ out = (·.getLsbD 0) ∨
    op = .sla ∧ val = (fun v => v.extractLsb' 0 7 ++ 0b0#1) ∧ out = (·.getLsbD 7) ∨
    op = .sra ∧ val = (·.sshiftRight 1) ∧ out = (·.getLsbD 0) ∨
    op = .swap ∧ val = (fun v => v.extractLsb' 0 4 ++ v.extractLsb' 4 4) ∧ out = (fun _ => false) ∨
    op = .srl ∧ val = (fun v => 0b0#1 ++ v.extractLsb' 1 7) ∧ out = (·.getLsbD 0) →
    ∀ fl : Byte → Flags, fl = (fun v => { z := val v == 0x00#8, n := false, h := false, c := out v }) →
    encode len (.shift op r.r8) = [0xCB#8, 0b00#2 ++ op.code ++ r.r8.code] ∧
    exec (.shift op r.r8) s = .next { s.setReg r (val (s.reg r)) with f := fl (s.reg r) } ∧
    encode len (.shift op .atHl) = [0xCB#8, 0b00#2 ++ op.code ++ 0b110#3] ∧
    exec (.shift op .atHl) s =
      .next { (s.afterRead s.hl).busWrite s.hl (val (s.answer s.hl)) with f := fl (s.answer s.hl) }

/-- R1009, R1000: BIT reads its operand once and writes none: Z is set iff the bit is 0, N cleared, H set, C kept. -/
def Obligations.BitTestsOneBit : Prop :=
  ∀ (len : StopLength) (b : Octal) (r : Reg8) (s : State) (fl : Byte → Flags),
    fl = (fun v => { z := !v.getLsbD b.toNat, n := false, h := true, c := s.f.c }) →
    encode len (.bit b r.r8) = [0xCB#8, 0b01#2 ++ b.code ++ r.r8.code] ∧
    exec (.bit b r.r8) s = .next { s with f := fl (s.reg r) } ∧
    encode len (.bit b .atHl) = [0xCB#8, 0b01#2 ++ b.code ++ 0b110#3] ∧
    exec (.bit b .atHl) s = .next { s.afterRead s.hl with f := fl (s.answer s.hl) }

/-- R1010, R1011, R1000: RES and SET write their operand with one bit cleared or set and every other bit kept; no flag
changes. The byte at HL is read once and written once even where the bit already had its value. -/
def Obligations.ResAndSetWriteOneBit : Prop :=
  ∀ (len : StopLength) (b : Octal) (r : Reg8) (s : State), ∃ cleared set : Byte → Byte,
    (∀ v k, k < 8 → (cleared v).getLsbD k = (v.getLsbD k && k != b.toNat)) ∧
    (∀ v k, k < 8 → (set v).getLsbD k = (v.getLsbD k || k == b.toNat)) ∧
    encode len (.res b r.r8) = [0xCB#8, 0b10#2 ++ b.code ++ r.r8.code] ∧
    exec (.res b r.r8) s = .next (s.setReg r (cleared (s.reg r))) ∧
    encode len (.res b .atHl) = [0xCB#8, 0b10#2 ++ b.code ++ 0b110#3] ∧
    exec (.res b .atHl) s = .next ((s.afterRead s.hl).busWrite s.hl (cleared (s.answer s.hl))) ∧
    encode len (.set b r.r8) = [0xCB#8, 0b11#2 ++ b.code ++ r.r8.code] ∧
    exec (.set b r.r8) s = .next (s.setReg r (set (s.reg r))) ∧
    encode len (.set b .atHl) = [0xCB#8, 0b11#2 ++ b.code ++ 0b110#3] ∧
    exec (.set b .atHl) s = .next ((s.afterRead s.hl).busWrite s.hl (set (s.answer s.hl)))

/-! ### Control transfer -/

/-- R1100 to R1103: JP n16, JP cc,n16 and JP HL. PC is past the whole instruction, so a jump not taken leaves it there. -/
def Obligations.AbsoluteJumps : Prop :=
  ∀ (len : StopLength) (cc : Cond) (nn : Word) (s : State) (taken : Bool),
    taken = (match cc with | .nz => !s.f.z | .z => s.f.z | .nc => !s.f.c | .c => s.f.c) →
    encode len (.jpN16 nn) = [0xC3#8, lowByte nn, highByte nn] ∧
    exec (.jpN16 nn) s = .next { s with pc := nn } ∧
    encode len (.jpCond cc nn) = [0b110#3 ++ cc.code ++ 0b010#3, lowByte nn, highByte nn] ∧
    exec (.jpCond cc nn) s = .next { s with pc := if taken then nn else s.pc } ∧
    encode len .jpHl = [0xE9#8] ∧
    exec .jpHl s = .next { s with pc := s.hl }

/-- R1104, R1105: JR and JR cc: the displacement is the byte's two's-complement value, the base the address after the
instruction, the sum modulo 65536. -/
def Obligations.RelativeJumps : Prop :=
  ∀ (len : StopLength) (cc : Cond) (e : Byte) (s : State) (taken : Bool) (target : Word),
    taken = (match cc with | .nz => !s.f.z | .z => s.f.z | .nc => !s.f.c | .c => s.f.c) →
    target = BitVec.ofInt 16 ((s.pc.toNat : Int) + e.toInt) →
    encode len (.jrE8 e) = [0x18#8, e] ∧
    exec (.jrE8 e) s = .next { s with pc := target } ∧
    encode len (.jrCond cc e) = [0b001#3 ++ cc.code ++ 0b000#3, e] ∧
    exec (.jrCond cc e) s = .next { s with pc := if taken then target else s.pc }

/-- R1106, R1107, R1111: CALL, CALL cc and RST push the address of the next instruction, low byte at the lower address
and first, and go to the target; a CALL cc not taken makes no access and leaves SP. -/
def Obligations.CallsPushTheReturnAddress : Prop :=
  ∀ (len : StopLength) (cc : Cond) (nn : Word) (y : Octal) (s : State) (taken : Bool) (pushed : State),
    taken = (match cc with | .nz => !s.f.z | .z => s.f.z | .nc => !s.f.c | .c => s.f.c) →
    pushed = ({ s with sp := s.sp - 2 }.busWrite (s.sp - 2) (lowByte s.pc)
      |>.busWrite (s.sp - 2 + 1) (highByte s.pc)) →
    encode len (.callN16 nn) = [0xCD#8, lowByte nn, highByte nn] ∧
    exec (.callN16 nn) s = .next { pushed with pc := nn } ∧
    encode len (.callCond cc nn) = [0b110#3 ++ cc.code ++ 0b100#3, lowByte nn, highByte nn] ∧
    exec (.callCond cc nn) s = .next (if taken then { pushed with pc := nn } else s) ∧
    encode len (.rst y) = [0b11#2 ++ y.code ++ 0b111#3] ∧
    exec (.rst y) s = .next { pushed with pc := BitVec.ofNat 16 (y.toNat * 8) }

/-- R1108, R1109, R1110: RET pops PC; RETI pops PC and sets IME; a RET cc not taken makes no access and leaves SP. -/
def Obligations.ReturnsPopThePc : Prop :=
  ∀ (len : StopLength) (cc : Cond) (s : State) (taken : Bool) (s1 popped : State),
    taken = (match cc with | .nz => !s.f.z | .z => s.f.z | .nc => !s.f.c | .c => s.f.c) →
    s1 = s.afterRead s.sp →
    popped = { s1.afterRead (s.sp + 1) with
      sp := s.sp + 2, pc := s1.answer (s.sp + 1) ++ s.answer s.sp } →
    encode len .ret = [0xC9#8] ∧ exec .ret s = .next popped ∧
    encode len .reti = [0xD9#8] ∧ exec .reti s = .next { popped with ime := true } ∧
    encode len (.retCond cc) = [0b110#3 ++ cc.code ++ 0b000#3] ∧
    exec (.retCond cc) s = .next (if taken then popped else s)

/-- R1106: on the RAM bus, RET after CALL or RST returns to the address after it and gives SP back, for every SP and
PC, the wrap included; every register and flag is as it was. -/
def Obligations.RetReturnsAfterCall : Prop :=
  ∀ (i : Instr) (s : State), (∃ nn, i = .callN16 nn) ∨ (∃ y, i = .rst y) →
    s.memWf = true → s.bus.answers = [] →
    ∃ t bus, exec i s = .next t ∧ exec .ret t = .next { s with bus := bus }

/-! ### Whole-machine rules -/

/-- Of every instruction: beside the bus it changes only what its rule lets it write (`effect`); every other register,
every other flag, SP, PC, IME, Halted, Stopped and the pending outside events are as they were. -/
def Obligations.InstructionsChangeOnlyWhatTheirRuleNames : Prop :=
  ∀ (i : Instr) (s : State), ∃ t, exec i s = .next t ∧
    (∀ r, r ∉ (effect i).regs → t.reg r = s.reg r) ∧
    ((effect i).z = false → t.f.z = s.f.z) ∧ ((effect i).n = false → t.f.n = s.f.n) ∧
    ((effect i).h = false → t.f.h = s.f.h) ∧ ((effect i).c = false → t.f.c = s.f.c) ∧
    ((effect i).sp = false → t.sp = s.sp) ∧ ((effect i).pc = false → t.pc = s.pc) ∧
    ((effect i).ime = false → t.ime = s.ime) ∧ ((effect i).halted = false → t.halted = s.halted) ∧
    ((effect i).stopped = false → t.stopped = s.stopped) ∧ t.events = s.events

/-- Of every instruction: every byte of memory but those at the addresses it stores to (`storedAddresses`, from the
state it starts in) reads as before; an instruction that stores nothing leaves all of memory. -/
def Obligations.InstructionsStoreOnlyAtTheirAddresses : Prop :=
  ∀ (i : Instr) (s : State), ∃ t, exec i s = .next t ∧
    ∀ addr : Word, addr ∉ storedAddresses i s → t.peek addr = s.peek addr

/-- R206, R202, R1000: every instruction makes exactly the data accesses its rule lists, in that order, each once, and
takes one answer of the bus for each read. -/
def Obligations.InstructionsMakeExactlyTheirAccesses : Prop :=
  ∀ (i : Instr) (s : State), ∃ (t : State) (made : List BusCall), exec i s = .next t ∧
    t.bus.calls = made.reverse ++ s.bus.calls ∧ made.map BusCall.access = accesses i s ∧
    t.bus.answers = s.bus.answers.drop ((accesses i s).countP fun acc => acc matches .read _)

/-- R104: IME is written only by DI, EI and RETI, Halted set only by HALT, Stopped only by STOP and the illegal
opcodes; no instruction clears Halted or Stopped; and none reads IME: whatever it holds changes nothing an instruction
does but IME itself, where the instruction leaves it. -/
def Obligations.CpuStateIsWrittenOnlyByItsInstructions : Prop :=
  ∀ (i : Instr) (s : State), ∃ t, exec i s = .next t ∧
    (t.ime ≠ s.ime → i = .di ∨ i = .ei ∨ i = .reti) ∧
    (t.halted ≠ s.halted → i = .halt ∧ t.halted = true) ∧
    (t.stopped ≠ s.stopped → ((∃ b, i = .stop b) ∨ i.isIllegal = true) ∧ t.stopped = true) ∧
    ∀ v : Bool, exec i { s with ime := v } =
      .next { t with ime := if i = .di ∨ i = .ei ∨ i = .reti then t.ime else v }

/-- R121: no instruction reads N or H except DAA and PUSH AF: their values change nothing another instruction does but
N and H themselves, where it leaves them. -/
def Obligations.NAndHAreReadOnlyByDaaAndPushAf : Prop :=
  ∀ (i : Instr) (s : State) (n h : Bool), i ≠ .daa → i ≠ .pushAf →
    ∃ t, exec i s = .next t ∧
      exec i { s with f := { s.f with n := n, h := h } } =
        .next { t with f := { t.f with
          n := if (effect i).n then t.f.n else n, h := if (effect i).h then t.f.h else h } }

/-- R201: while the bus answers, what the RAM holds changes nothing an instruction does to the core or asks of the bus. -/
def Obligations.AnInstructionDependsOnlyOnTheBusAnswers : Prop :=
  ∀ (i : Instr) (s : State) (mem : List Host.Cell), 2 ≤ s.bus.answers.length →
    ∃ t mem', exec i s = .next t ∧
      exec i { s with bus := { s.bus with mem := mem } } = .next { t with bus := { t.bus with mem := mem' } }

/-- R208: the bus calls of a run are the concatenation of those of its steps: no step takes back or reorders a call,
and none makes more than five (three fetches and two data accesses). -/
def Obligations.StepsOnlyAddBusCalls : Prop :=
  ∀ s t : State, step s = .next t → ∃ made, t.bus.calls = made ++ s.bus.calls ∧ made.length ≤ 5

/-! ### Invariants -/

/-- Every step keeps the memory's canonical form, whatever acts from outside. The form (addresses strictly rising and
below 65,536, no entry equal to 0x00) is the model's choice, not the spec's (log entry 2): the spec gives the flat
address space of R200 and the RAM bus of R211, and the list that holds them is the model's. -/
def Obligations.StepKeepsTheMemoryCanonical : Prop :=
  ∀ s t : State, s.memWf = true → step s = .next t → t.memWf = true

/-- R105: "the core never produces it": a tick of an admitted state leaves an admitted state. -/
def Obligations.TickKeepsTheModeAdmitted : Prop :=
  ∀ s0 s t : State, s0.coreTurn = some s → s.legalMode = true → step s0 = .next t → t.legalMode = true

/-- The machine right after its first reset meets both invariants, under each profile, and is Running. It is what a
reset makes of any state, but for the bus and the outside events, which a reset leaves and which hold nothing in it:
that they hold nothing is the model's choice (log entries 2, 3 and 4). -/
def Obligations.ResetMeetsTheInvariants : Prop :=
  ∀ p : ResetProfile, (State.resetOf p).memWf = true ∧ (State.resetOf p).legalMode = true ∧
    (State.resetOf p).running = true ∧
    ∀ s : State, State.resetOf p = { s.hostReset p with bus := Bus.empty, events := [] }

/-! ### Reset, the dispatcher, the register views and memory -/

/-- R130, R1300, R131: the reset values under each profile; reset touches neither memory nor the bus. A step whose
next event is a reset makes that reset and nothing else. That a reset is an event of the step, that it takes the
configured profile, and that it leaves the later events to come are the model's choices (log entries 1 and 4). -/
def Obligations.ResetGivesTheTableOfValues : Prop :=
  (∀ s : State, s.hostReset .zero = { s with
    a := 0x00#8, f := Flags.ofByte 0x00#8, b := 0x00#8, c := 0x00#8, d := 0x00#8, e := 0x00#8, h := 0x00#8, l := 0x00#8,
    sp := 0x0000#16, pc := 0x0000#16, ime := false, halted := false, stopped := false }) ∧
  (∀ s : State, s.hostReset .dmgPostBoot = { s with
    a := 0x01#8, f := Flags.ofByte 0xB0#8, b := 0x00#8, c := 0x13#8, d := 0x00#8, e := 0xD8#8, h := 0x01#8, l := 0x4D#8,
    sp := 0xFFFE#16, pc := 0x0100#16, ime := false, halted := false, stopped := false }) ∧
  (∀ (s : State) (rest : List OutsideEvent), s.events = .reset :: rest →
    step s = .next (({ s with events := rest } : State).hostReset Config.resetProfile))

/-- R1204: the dispatcher acts between ticks: a step with a move pending makes that move and nothing else. It can write
IME, Halted, Stopped, PC and SP and use the bus; it cannot write A, F, B, C, D, E, H or L. -/
def Obligations.DispatcherMovesReachOnlyWhatIsExposed : Prop :=
  ∀ (s : State) (m : DispatcherMove) (rest : List OutsideEvent), s.events = .dispatcher m :: rest →
    ∃ t, step s = .next t ∧ t.events = rest ∧
      t.a = s.a ∧ t.f = s.f ∧ t.b = s.b ∧ t.c = s.c ∧ t.d = s.d ∧ t.e = s.e ∧ t.h = s.h ∧ t.l = s.l ∧
      t.ime = (match m with | .setIme v => v | _ => s.ime) ∧
      t.halted = (match m with | .setHalted v => v | _ => s.halted) ∧
      t.stopped = (match m with | .setStopped v => v | _ => s.stopped) ∧
      t.pc = (match m with | .setPc v => v | _ => s.pc) ∧
      t.sp = (match m with | .setSp v => v | _ => s.sp) ∧
      t.bus = (match m with
        | .busRead addr => (s.afterRead addr).bus
        | .busWrite addr v => (s.busWrite addr v).bus
        | _ => s.bus)

/-- R1206, R1209, R1207: the informative service sequence on the RAM bus wakes a halted core at the vector with IME
clear, PC pushed below SP, and RETI then resumes where it was, with SP back, IME set and Halted clear: no other
register, flag or state boolean has changed, and no byte of memory but the two pushed. The events that stand for the
service, six because a 16-bit dispatcher access is two of them, are the model's choice (log entry 4). -/
def Obligations.InterruptServiceAndRetiResumeTheProgram : Prop :=
  ∀ (s : State) (vector : Word), s.memWf = true → s.bus.answers = [] →
    ∃ t u, core.run 6 { s with events := interruptService s vector } = .next t ∧
      t = { s with ime := false, halted := false, sp := s.sp - 2, pc := vector, events := [], bus := t.bus } ∧
      t.peek (s.sp - 2) = lowByte s.pc ∧ t.peek (s.sp - 1) = highByte s.pc ∧
      (∀ addr, addr ≠ s.sp - 2 → addr ≠ s.sp - 1 → t.peek addr = s.peek addr) ∧
      exec .reti t = .next u ∧
      u = { s with ime := true, halted := false, events := [], bus := u.bus } ∧
      u.bus.answers = [] ∧ (∀ addr, u.peek addr = t.peek addr)

/-- R202, R203: on the RAM bus, a 16-bit value stored at an address has its low byte there and its high byte at the
next address modulo 65536, the low byte being written first; every other byte is kept. A 16-bit read takes the byte at
the address, and then the one at the next address as the high byte; it returns a value stored there. -/
def Obligations.WordAccessesAreLittleEndian : Prop :=
  ∀ (s : State) (addr v : Word), s.memWf = true → s.bus.answers = [] →
    (s.busWrite16 addr v).peek addr = lowByte v ∧ (s.busWrite16 addr v).peek (addr + 1) = highByte v ∧
    (∀ other, other ≠ addr → other ≠ addr + 1 → (s.busWrite16 addr v).peek other = s.peek other) ∧
    (s.busWrite16 addr v).bus.calls = .write (addr + 1) (highByte v) :: .write addr (lowByte v) :: s.bus.calls ∧
    (s.busRead16 addr).1 = s.peek (addr + 1) ++ s.peek addr ∧
    (s.busRead16 addr).2.bus.calls =
      .read (addr + 1) (s.peek (addr + 1)) :: .read addr (s.peek addr) :: s.bus.calls ∧
    ((s.busWrite16 addr v).busRead16 addr).1 = v ∧
    (s.busWrite16 0xFFFF#16 v).peek 0x0000#16 = highByte v

/-- R101, R102: F read as a byte has Z, N, H, C in bits 7 to 4 and zeros below; a byte written to F keeps bits 7 to 4.
A pair read is its two registers, the first-named one high; a pair written is its two registers written and nothing
else, so that it reads back as written, but for the low four bits of AF. -/
def Obligations.FlagByteAndPairViews : Prop :=
  (∀ f : Flags, f.toByte =
      BitVec.ofBool f.z ++ BitVec.ofBool f.n ++ BitVec.ofBool f.h ++ BitVec.ofBool f.c ++ 0b0000#4 ∧
    Flags.ofByte f.toByte = f) ∧
  (∀ v : Byte, Flags.ofByte v = { z := v.getLsbD 7, n := v.getLsbD 6, h := v.getLsbD 5, c := v.getLsbD 4 } ∧
    (Flags.ofByte v).toByte = v &&& 0xF0#8) ∧
  (∀ (s : State) (v : Word),
    s.rp2 .bc = s.b ++ s.c ∧ s.setRp2 .bc v = { s with b := highByte v, c := lowByte v } ∧
    s.rp2 .de = s.d ++ s.e ∧ s.setRp2 .de v = { s with d := highByte v, e := lowByte v } ∧
    s.rp2 .hl = s.h ++ s.l ∧ s.setRp2 .hl v = { s with h := highByte v, l := lowByte v } ∧
    s.rp2 .af = s.a ++ s.f.toByte ∧
    s.setRp2 .af v = { s with a := highByte v, f := Flags.ofByte (lowByte v) } ∧
    ∀ q, (s.setRp2 q v).rp2 q = if q = .af then v &&& 0xFFF0#16 else v)
end

