-- ==== Sys2Proof/Laws/Memory.lean ====
section
/-! SUPPORT. The laws of the RAM (R211): a read after a write, the bytes a write leaves alone, and the canonical form
every operation keeps. -/

namespace Sys2Proof.Machine

/-- A canonical memory from `lo` on reads as unlisted below `lo`. -/
theorem Memory.peek_below (m : List Host.Cell) (lo addr : Nat) (hw : Memory.wfFrom lo m = true) (hlt : addr < lo) :
    Memory.peek m addr = Config.unlistedByte := by
  induction m generalizing lo with
  | nil => rfl
  | cons cell rest ih =>
    obtain ⟨k, x⟩ := cell
    simp only [Memory.wfFrom, Bool.and_eq_true, decide_eq_true_eq] at hw
    have hk : k ≠ addr := by omega
    simp only [Memory.peek, if_neg hk]
    exact ih (k + 1) hw.2 (by omega)

/-- Writing a byte leaves every other byte alone. -/
theorem Memory.peek_poke_other (m : List Host.Cell) (addr at' : Nat) (v : Byte) (hne : at' ≠ addr) :
    Memory.peek (Memory.poke m addr v) at' = Memory.peek m at' := by
  induction m with
  | nil =>
    simp only [Memory.poke]
    split
    · rfl
    · simp [Memory.peek, hne.symm]
  | cons cell rest ih =>
    obtain ⟨k, x⟩ := cell
    simp only [Memory.poke]
    split
    · split
      · rfl
      · simp [Memory.peek, hne.symm]
    · split
      · next hk =>
        split
        · simp [Memory.peek, ← hk, hne.symm]
        · simp [Memory.peek, ← hk, hne.symm]
      · simp only [Memory.peek, ih]

/-- Reading a byte after writing it gives the byte written. -/
theorem Memory.peek_poke_self_from (m : List Host.Cell) (lo addr : Nat) (v : Byte) (hw : Memory.wfFrom lo m = true) :
    Memory.peek (Memory.poke m addr v) addr = v := by
  induction m generalizing lo with
  | nil =>
    simp only [Memory.poke]
    split
    · next h => simp [Memory.peek, h]
    · simp [Memory.peek]
  | cons cell rest ih =>
    obtain ⟨k, x⟩ := cell
    have hw0 := hw
    simp only [Memory.wfFrom, Bool.and_eq_true, decide_eq_true_eq] at hw
    simp only [Memory.poke]
    split
    · next hlt =>
      split
      · next hv =>
        rw [hv]
        have hk : k ≠ addr := by omega
        simp only [Memory.peek, if_neg hk]
        exact Memory.peek_below rest (k + 1) addr hw.2 (by omega)
      · simp [Memory.peek]
    · split
      · next hk =>
        split
        · next hv =>
          rw [hv]
          exact Memory.peek_below rest (k + 1) addr hw.2 (by omega)
        · simp [Memory.peek]
      · next hk =>
        have hk' : k ≠ addr := fun h => hk h.symm
        simp only [Memory.peek, if_neg hk']
        exact ih (k + 1) hw.2

theorem Memory.peek_poke_self (m : List Host.Cell) (addr : Nat) (v : Byte) (hw : Memory.wf m = true) :
    Memory.peek (Memory.poke m addr v) addr = v :=
  Memory.peek_poke_self_from m 0 addr v hw

/-- A canonical form from an address on is one from any lower address on. -/
theorem Memory.wfFrom_mono (m : List Host.Cell) (lo lo' : Nat) (hle : lo' ≤ lo) (hw : Memory.wfFrom lo m = true) :
    Memory.wfFrom lo' m = true := by
  cases m with
  | nil => rfl
  | cons cell rest =>
    obtain ⟨k, x⟩ := cell
    simp only [Memory.wfFrom, Bool.and_eq_true, decide_eq_true_eq] at hw ⊢
    exact ⟨⟨⟨by omega, hw.1.1.2⟩, hw.1.2⟩, hw.2⟩

theorem Memory.poke_wfFrom (m : List Host.Cell) (lo addr : Nat) (v : Byte) (hlo : lo ≤ addr) (ha : addr < 65536)
    (hw : Memory.wfFrom lo m = true) : Memory.wfFrom lo (Memory.poke m addr v) = true := by
  induction m generalizing lo with
  | nil =>
    simp only [Memory.poke]
    split
    · rfl
    · next hv => simp [Memory.wfFrom, hlo, ha, hv]
  | cons cell rest ih =>
    obtain ⟨k, x⟩ := cell
    have hw0 := hw
    simp only [Memory.wfFrom, Bool.and_eq_true, decide_eq_true_eq] at hw
    simp only [Memory.poke]
    split
    · next hlt =>
      split
      · exact hw0
      · next hv =>
        simp only [Memory.wfFrom, Bool.and_eq_true, decide_eq_true_eq, bne_iff_ne, ne_eq]
        exact ⟨⟨⟨hlo, ha⟩, hv⟩, ⟨⟨by omega, hw.1.1.2⟩, by simpa using hw.1.2⟩, hw.2⟩
    · split
      · next hk =>
        split
        · exact Memory.wfFrom_mono rest (k + 1) lo (by omega) hw.2
        · next hv =>
          simp only [Memory.wfFrom, Bool.and_eq_true, decide_eq_true_eq, bne_iff_ne, ne_eq]
          exact ⟨⟨⟨hlo, ha⟩, hv⟩, by rw [hk]; exact hw.2⟩
      · next hk =>
        simp only [Memory.wfFrom, Bool.and_eq_true, decide_eq_true_eq]
        exact ⟨hw.1, ih (k + 1) (by omega) hw.2⟩

/-- Every write of a byte keeps the canonical form. -/
theorem Memory.poke_wf (m : List Host.Cell) (addr : Word) (v : Byte) (hw : Memory.wf m = true) :
    Memory.wf (Memory.poke m addr.toNat v) = true :=
  Memory.poke_wfFrom m 0 addr.toNat v (Nat.zero_le _) addr.isLt hw

/-- Placing bytes keeps the canonical form. -/
theorem Memory.pokeBytes_wf (bs : List Byte) (m : List Host.Cell) (addr : Word) (hw : Memory.wf m = true) :
    Memory.wf (Memory.pokeBytes m addr bs) = true := by
  induction bs generalizing m addr with
  | nil => exact hw
  | cons v rest ih => exact ih _ _ (Memory.poke_wf m addr v hw)

end Sys2Proof.Machine
end

