-- ==== Sys2Proof/Laws/State.lean ====
section
/-! SUPPORT. One lemma per field per named update of State, each true by rfl: a bus read, a bus write, a fetch, a write to
a pair, a write to a register, a call, a jump and a return. -/

namespace Sys2Proof.Machine

@[simp] theorem State.afterRead_a (s : State) (addr : Word) : (s.afterRead addr).a = s.a := rfl
@[simp] theorem State.afterRead_f (s : State) (addr : Word) : (s.afterRead addr).f = s.f := rfl
@[simp] theorem State.afterRead_b (s : State) (addr : Word) : (s.afterRead addr).b = s.b := rfl
@[simp] theorem State.afterRead_c (s : State) (addr : Word) : (s.afterRead addr).c = s.c := rfl
@[simp] theorem State.afterRead_d (s : State) (addr : Word) : (s.afterRead addr).d = s.d := rfl
@[simp] theorem State.afterRead_e (s : State) (addr : Word) : (s.afterRead addr).e = s.e := rfl
@[simp] theorem State.afterRead_h (s : State) (addr : Word) : (s.afterRead addr).h = s.h := rfl
@[simp] theorem State.afterRead_l (s : State) (addr : Word) : (s.afterRead addr).l = s.l := rfl
@[simp] theorem State.afterRead_sp (s : State) (addr : Word) : (s.afterRead addr).sp = s.sp := rfl
@[simp] theorem State.afterRead_pc (s : State) (addr : Word) : (s.afterRead addr).pc = s.pc := rfl
@[simp] theorem State.afterRead_ime (s : State) (addr : Word) : (s.afterRead addr).ime = s.ime := rfl
@[simp] theorem State.afterRead_halted (s : State) (addr : Word) : (s.afterRead addr).halted = s.halted := rfl
@[simp] theorem State.afterRead_stopped (s : State) (addr : Word) : (s.afterRead addr).stopped = s.stopped := rfl
@[simp] theorem State.afterRead_events (s : State) (addr : Word) : (s.afterRead addr).events = s.events := rfl

@[simp] theorem State.afterRead_mem (s : State) (addr : Word) : (s.afterRead addr).bus.mem = s.bus.mem := rfl
@[simp] theorem State.afterRead_answers (s : State) (addr : Word) :
    (s.afterRead addr).bus.answers = s.bus.answers.tail := rfl
@[simp] theorem State.afterRead_calls (s : State) (addr : Word) :
    (s.afterRead addr).bus.calls = .read addr (s.answer addr) :: s.bus.calls := rfl
@[simp] theorem State.afterRead_peek (s : State) (addr at' : Word) : (s.afterRead addr).peek at' = s.peek at' := rfl

@[simp] theorem State.busWrite_a (s : State) (addr : Word) (v : Byte) : (s.busWrite addr v).a = s.a := rfl
@[simp] theorem State.busWrite_f (s : State) (addr : Word) (v : Byte) : (s.busWrite addr v).f = s.f := rfl
@[simp] theorem State.busWrite_b (s : State) (addr : Word) (v : Byte) : (s.busWrite addr v).b = s.b := rfl
@[simp] theorem State.busWrite_c (s : State) (addr : Word) (v : Byte) : (s.busWrite addr v).c = s.c := rfl
@[simp] theorem State.busWrite_d (s : State) (addr : Word) (v : Byte) : (s.busWrite addr v).d = s.d := rfl
@[simp] theorem State.busWrite_e (s : State) (addr : Word) (v : Byte) : (s.busWrite addr v).e = s.e := rfl
@[simp] theorem State.busWrite_h (s : State) (addr : Word) (v : Byte) : (s.busWrite addr v).h = s.h := rfl
@[simp] theorem State.busWrite_l (s : State) (addr : Word) (v : Byte) : (s.busWrite addr v).l = s.l := rfl
@[simp] theorem State.busWrite_sp (s : State) (addr : Word) (v : Byte) : (s.busWrite addr v).sp = s.sp := rfl
@[simp] theorem State.busWrite_pc (s : State) (addr : Word) (v : Byte) : (s.busWrite addr v).pc = s.pc := rfl
@[simp] theorem State.busWrite_ime (s : State) (addr : Word) (v : Byte) : (s.busWrite addr v).ime = s.ime := rfl
@[simp] theorem State.busWrite_halted (s : State) (addr : Word) (v : Byte) : (s.busWrite addr v).halted = s.halted := rfl
@[simp] theorem State.busWrite_stopped (s : State) (addr : Word) (v : Byte) : (s.busWrite addr v).stopped = s.stopped := rfl
@[simp] theorem State.busWrite_events (s : State) (addr : Word) (v : Byte) : (s.busWrite addr v).events = s.events := rfl

@[simp] theorem State.busWrite_mem (s : State) (addr : Word) (v : Byte) :
    (s.busWrite addr v).bus.mem = Memory.poke s.bus.mem addr.toNat v := rfl
@[simp] theorem State.busWrite_answers (s : State) (addr : Word) (v : Byte) :
    (s.busWrite addr v).bus.answers = s.bus.answers := rfl
@[simp] theorem State.busWrite_calls (s : State) (addr : Word) (v : Byte) :
    (s.busWrite addr v).bus.calls = .write addr v :: s.bus.calls := rfl

@[simp] theorem State.fetch8_a (s : State) : (s.fetch8.2).a = s.a := rfl
@[simp] theorem State.fetch8_f (s : State) : (s.fetch8.2).f = s.f := rfl
@[simp] theorem State.fetch8_b (s : State) : (s.fetch8.2).b = s.b := rfl
@[simp] theorem State.fetch8_c (s : State) : (s.fetch8.2).c = s.c := rfl
@[simp] theorem State.fetch8_d (s : State) : (s.fetch8.2).d = s.d := rfl
@[simp] theorem State.fetch8_e (s : State) : (s.fetch8.2).e = s.e := rfl
@[simp] theorem State.fetch8_h (s : State) : (s.fetch8.2).h = s.h := rfl
@[simp] theorem State.fetch8_l (s : State) : (s.fetch8.2).l = s.l := rfl
@[simp] theorem State.fetch8_sp (s : State) : (s.fetch8.2).sp = s.sp := rfl
@[simp] theorem State.fetch8_ime (s : State) : (s.fetch8.2).ime = s.ime := rfl
@[simp] theorem State.fetch8_halted (s : State) : (s.fetch8.2).halted = s.halted := rfl
@[simp] theorem State.fetch8_stopped (s : State) : (s.fetch8.2).stopped = s.stopped := rfl
@[simp] theorem State.fetch8_events (s : State) : (s.fetch8.2).events = s.events := rfl

@[simp] theorem State.fetch8_pc (s : State) : s.fetch8.2.pc = s.pc + 1 := rfl
@[simp] theorem State.fetch8_value (s : State) : s.fetch8.1 = s.answer s.pc := rfl
@[simp] theorem State.fetch8_bus (s : State) : s.fetch8.2.bus = (s.afterRead s.pc).bus := rfl

@[simp] theorem State.setBc_a (s : State) (v : Word) : (s.setBc v).a = s.a := rfl
@[simp] theorem State.setBc_f (s : State) (v : Word) : (s.setBc v).f = s.f := rfl
@[simp] theorem State.setBc_d (s : State) (v : Word) : (s.setBc v).d = s.d := rfl
@[simp] theorem State.setBc_e (s : State) (v : Word) : (s.setBc v).e = s.e := rfl
@[simp] theorem State.setBc_h (s : State) (v : Word) : (s.setBc v).h = s.h := rfl
@[simp] theorem State.setBc_l (s : State) (v : Word) : (s.setBc v).l = s.l := rfl
@[simp] theorem State.setBc_sp (s : State) (v : Word) : (s.setBc v).sp = s.sp := rfl
@[simp] theorem State.setBc_pc (s : State) (v : Word) : (s.setBc v).pc = s.pc := rfl
@[simp] theorem State.setBc_ime (s : State) (v : Word) : (s.setBc v).ime = s.ime := rfl
@[simp] theorem State.setBc_halted (s : State) (v : Word) : (s.setBc v).halted = s.halted := rfl
@[simp] theorem State.setBc_stopped (s : State) (v : Word) : (s.setBc v).stopped = s.stopped := rfl
@[simp] theorem State.setBc_bus (s : State) (v : Word) : (s.setBc v).bus = s.bus := rfl
@[simp] theorem State.setBc_events (s : State) (v : Word) : (s.setBc v).events = s.events := rfl

@[simp] theorem State.setBc_b (s : State) (v : Word) : (s.setBc v).b = highByte v := rfl
@[simp] theorem State.setBc_c (s : State) (v : Word) : (s.setBc v).c = lowByte v := rfl

@[simp] theorem State.setDe_a (s : State) (v : Word) : (s.setDe v).a = s.a := rfl
@[simp] theorem State.setDe_f (s : State) (v : Word) : (s.setDe v).f = s.f := rfl
@[simp] theorem State.setDe_b (s : State) (v : Word) : (s.setDe v).b = s.b := rfl
@[simp] theorem State.setDe_c (s : State) (v : Word) : (s.setDe v).c = s.c := rfl
@[simp] theorem State.setDe_h (s : State) (v : Word) : (s.setDe v).h = s.h := rfl
@[simp] theorem State.setDe_l (s : State) (v : Word) : (s.setDe v).l = s.l := rfl
@[simp] theorem State.setDe_sp (s : State) (v : Word) : (s.setDe v).sp = s.sp := rfl
@[simp] theorem State.setDe_pc (s : State) (v : Word) : (s.setDe v).pc = s.pc := rfl
@[simp] theorem State.setDe_ime (s : State) (v : Word) : (s.setDe v).ime = s.ime := rfl
@[simp] theorem State.setDe_halted (s : State) (v : Word) : (s.setDe v).halted = s.halted := rfl
@[simp] theorem State.setDe_stopped (s : State) (v : Word) : (s.setDe v).stopped = s.stopped := rfl
@[simp] theorem State.setDe_bus (s : State) (v : Word) : (s.setDe v).bus = s.bus := rfl
@[simp] theorem State.setDe_events (s : State) (v : Word) : (s.setDe v).events = s.events := rfl

@[simp] theorem State.setDe_d (s : State) (v : Word) : (s.setDe v).d = highByte v := rfl
@[simp] theorem State.setDe_e (s : State) (v : Word) : (s.setDe v).e = lowByte v := rfl

@[simp] theorem State.setHl_a (s : State) (v : Word) : (s.setHl v).a = s.a := rfl
@[simp] theorem State.setHl_f (s : State) (v : Word) : (s.setHl v).f = s.f := rfl
@[simp] theorem State.setHl_b (s : State) (v : Word) : (s.setHl v).b = s.b := rfl
@[simp] theorem State.setHl_c (s : State) (v : Word) : (s.setHl v).c = s.c := rfl
@[simp] theorem State.setHl_d (s : State) (v : Word) : (s.setHl v).d = s.d := rfl
@[simp] theorem State.setHl_e (s : State) (v : Word) : (s.setHl v).e = s.e := rfl
@[simp] theorem State.setHl_sp (s : State) (v : Word) : (s.setHl v).sp = s.sp := rfl
@[simp] theorem State.setHl_pc (s : State) (v : Word) : (s.setHl v).pc = s.pc := rfl
@[simp] theorem State.setHl_ime (s : State) (v : Word) : (s.setHl v).ime = s.ime := rfl
@[simp] theorem State.setHl_halted (s : State) (v : Word) : (s.setHl v).halted = s.halted := rfl
@[simp] theorem State.setHl_stopped (s : State) (v : Word) : (s.setHl v).stopped = s.stopped := rfl
@[simp] theorem State.setHl_bus (s : State) (v : Word) : (s.setHl v).bus = s.bus := rfl
@[simp] theorem State.setHl_events (s : State) (v : Word) : (s.setHl v).events = s.events := rfl

@[simp] theorem State.setHl_h (s : State) (v : Word) : (s.setHl v).h = highByte v := rfl
@[simp] theorem State.setHl_l (s : State) (v : Word) : (s.setHl v).l = lowByte v := rfl

@[simp] theorem State.setReg_f (s : State) (r : Reg8) (v : Byte) : (s.setReg r v).f = s.f := by
  cases r <;> rfl
@[simp] theorem State.setReg_sp (s : State) (r : Reg8) (v : Byte) : (s.setReg r v).sp = s.sp := by
  cases r <;> rfl
@[simp] theorem State.setReg_pc (s : State) (r : Reg8) (v : Byte) : (s.setReg r v).pc = s.pc := by
  cases r <;> rfl
@[simp] theorem State.setReg_ime (s : State) (r : Reg8) (v : Byte) : (s.setReg r v).ime = s.ime := by
  cases r <;> rfl
@[simp] theorem State.setReg_halted (s : State) (r : Reg8) (v : Byte) : (s.setReg r v).halted = s.halted := by
  cases r <;> rfl
@[simp] theorem State.setReg_stopped (s : State) (r : Reg8) (v : Byte) : (s.setReg r v).stopped = s.stopped := by
  cases r <;> rfl
@[simp] theorem State.setReg_bus (s : State) (r : Reg8) (v : Byte) : (s.setReg r v).bus = s.bus := by
  cases r <;> rfl
@[simp] theorem State.setReg_events (s : State) (r : Reg8) (v : Byte) : (s.setReg r v).events = s.events := by
  cases r <;> rfl

@[simp] theorem State.setReg_reg_self (s : State) (r : Reg8) (v : Byte) : (s.setReg r v).reg r = v := by
  cases r <;> rfl

theorem State.setReg_reg_other (s : State) (r r' : Reg8) (v : Byte) (h : r' ≠ r) : (s.setReg r v).reg r' = s.reg r' := by
  cases r <;> cases r' <;> first | rfl | exact absurd rfl h

@[simp] theorem State.push16_a (s : State) (v : Word) : (s.push16 v).a = s.a := rfl
@[simp] theorem State.push16_f (s : State) (v : Word) : (s.push16 v).f = s.f := rfl
@[simp] theorem State.push16_b (s : State) (v : Word) : (s.push16 v).b = s.b := rfl
@[simp] theorem State.push16_c (s : State) (v : Word) : (s.push16 v).c = s.c := rfl
@[simp] theorem State.push16_d (s : State) (v : Word) : (s.push16 v).d = s.d := rfl
@[simp] theorem State.push16_e (s : State) (v : Word) : (s.push16 v).e = s.e := rfl
@[simp] theorem State.push16_h (s : State) (v : Word) : (s.push16 v).h = s.h := rfl
@[simp] theorem State.push16_l (s : State) (v : Word) : (s.push16 v).l = s.l := rfl
@[simp] theorem State.push16_pc (s : State) (v : Word) : (s.push16 v).pc = s.pc := rfl
@[simp] theorem State.push16_ime (s : State) (v : Word) : (s.push16 v).ime = s.ime := rfl
@[simp] theorem State.push16_halted (s : State) (v : Word) : (s.push16 v).halted = s.halted := rfl
@[simp] theorem State.push16_stopped (s : State) (v : Word) : (s.push16 v).stopped = s.stopped := rfl
@[simp] theorem State.push16_events (s : State) (v : Word) : (s.push16 v).events = s.events := rfl

@[simp] theorem State.push16_sp (s : State) (v : Word) : (s.push16 v).sp = s.sp - 2 := rfl

@[simp] theorem State.pop16_a (s : State) : (s.pop16.2).a = s.a := rfl
@[simp] theorem State.pop16_f (s : State) : (s.pop16.2).f = s.f := rfl
@[simp] theorem State.pop16_b (s : State) : (s.pop16.2).b = s.b := rfl
@[simp] theorem State.pop16_c (s : State) : (s.pop16.2).c = s.c := rfl
@[simp] theorem State.pop16_d (s : State) : (s.pop16.2).d = s.d := rfl
@[simp] theorem State.pop16_e (s : State) : (s.pop16.2).e = s.e := rfl
@[simp] theorem State.pop16_h (s : State) : (s.pop16.2).h = s.h := rfl
@[simp] theorem State.pop16_l (s : State) : (s.pop16.2).l = s.l := rfl
@[simp] theorem State.pop16_pc (s : State) : (s.pop16.2).pc = s.pc := rfl
@[simp] theorem State.pop16_ime (s : State) : (s.pop16.2).ime = s.ime := rfl
@[simp] theorem State.pop16_halted (s : State) : (s.pop16.2).halted = s.halted := rfl
@[simp] theorem State.pop16_stopped (s : State) : (s.pop16.2).stopped = s.stopped := rfl
@[simp] theorem State.pop16_events (s : State) : (s.pop16.2).events = s.events := rfl

@[simp] theorem State.pop16_sp (s : State) : s.pop16.2.sp = s.sp + 2 := rfl

@[simp] theorem State.callTo_a (s : State) (target : Word) : (s.callTo target).a = s.a := rfl
@[simp] theorem State.callTo_f (s : State) (target : Word) : (s.callTo target).f = s.f := rfl
@[simp] theorem State.callTo_b (s : State) (target : Word) : (s.callTo target).b = s.b := rfl
@[simp] theorem State.callTo_c (s : State) (target : Word) : (s.callTo target).c = s.c := rfl
@[simp] theorem State.callTo_d (s : State) (target : Word) : (s.callTo target).d = s.d := rfl
@[simp] theorem State.callTo_e (s : State) (target : Word) : (s.callTo target).e = s.e := rfl
@[simp] theorem State.callTo_h (s : State) (target : Word) : (s.callTo target).h = s.h := rfl
@[simp] theorem State.callTo_l (s : State) (target : Word) : (s.callTo target).l = s.l := rfl
@[simp] theorem State.callTo_ime (s : State) (target : Word) : (s.callTo target).ime = s.ime := rfl
@[simp] theorem State.callTo_halted (s : State) (target : Word) : (s.callTo target).halted = s.halted := rfl
@[simp] theorem State.callTo_stopped (s : State) (target : Word) : (s.callTo target).stopped = s.stopped := rfl
@[simp] theorem State.callTo_events (s : State) (target : Word) : (s.callTo target).events = s.events := rfl

@[simp] theorem State.callTo_sp (s : State) (target : Word) : (s.callTo target).sp = s.sp - 2 := rfl
@[simp] theorem State.callTo_pc (s : State) (target : Word) : (s.callTo target).pc = target := rfl

@[simp] theorem State.jumpRelative_a (s : State) (e : Byte) : (s.jumpRelative e).a = s.a := rfl
@[simp] theorem State.jumpRelative_f (s : State) (e : Byte) : (s.jumpRelative e).f = s.f := rfl
@[simp] theorem State.jumpRelative_b (s : State) (e : Byte) : (s.jumpRelative e).b = s.b := rfl
@[simp] theorem State.jumpRelative_c (s : State) (e : Byte) : (s.jumpRelative e).c = s.c := rfl
@[simp] theorem State.jumpRelative_d (s : State) (e : Byte) : (s.jumpRelative e).d = s.d := rfl
@[simp] theorem State.jumpRelative_e (s : State) (e : Byte) : (s.jumpRelative e).e = s.e := rfl
@[simp] theorem State.jumpRelative_h (s : State) (e : Byte) : (s.jumpRelative e).h = s.h := rfl
@[simp] theorem State.jumpRelative_l (s : State) (e : Byte) : (s.jumpRelative e).l = s.l := rfl
@[simp] theorem State.jumpRelative_sp (s : State) (e : Byte) : (s.jumpRelative e).sp = s.sp := rfl
@[simp] theorem State.jumpRelative_ime (s : State) (e : Byte) : (s.jumpRelative e).ime = s.ime := rfl
@[simp] theorem State.jumpRelative_halted (s : State) (e : Byte) : (s.jumpRelative e).halted = s.halted := rfl
@[simp] theorem State.jumpRelative_stopped (s : State) (e : Byte) : (s.jumpRelative e).stopped = s.stopped := rfl
@[simp] theorem State.jumpRelative_bus (s : State) (e : Byte) : (s.jumpRelative e).bus = s.bus := rfl
@[simp] theorem State.jumpRelative_events (s : State) (e : Byte) : (s.jumpRelative e).events = s.events := rfl

@[simp] theorem State.jumpRelative_pc (s : State) (e : Byte) : (s.jumpRelative e).pc = s.pc + sext16 e := rfl

@[simp] theorem State.returnTo_a (s : State) : (s.returnTo).a = s.a := rfl
@[simp] theorem State.returnTo_f (s : State) : (s.returnTo).f = s.f := rfl
@[simp] theorem State.returnTo_b (s : State) : (s.returnTo).b = s.b := rfl
@[simp] theorem State.returnTo_c (s : State) : (s.returnTo).c = s.c := rfl
@[simp] theorem State.returnTo_d (s : State) : (s.returnTo).d = s.d := rfl
@[simp] theorem State.returnTo_e (s : State) : (s.returnTo).e = s.e := rfl
@[simp] theorem State.returnTo_h (s : State) : (s.returnTo).h = s.h := rfl
@[simp] theorem State.returnTo_l (s : State) : (s.returnTo).l = s.l := rfl
@[simp] theorem State.returnTo_ime (s : State) : (s.returnTo).ime = s.ime := rfl
@[simp] theorem State.returnTo_halted (s : State) : (s.returnTo).halted = s.halted := rfl
@[simp] theorem State.returnTo_stopped (s : State) : (s.returnTo).stopped = s.stopped := rfl
@[simp] theorem State.returnTo_events (s : State) : (s.returnTo).events = s.events := rfl

@[simp] theorem State.returnTo_sp (s : State) : s.returnTo.sp = s.sp + 2 := rfl
@[simp] theorem State.returnTo_pc (s : State) : s.returnTo.pc = s.pop16.1 := rfl

@[simp] theorem State.returnFromInterrupt_a (s : State) : (s.returnFromInterrupt).a = s.a := rfl
@[simp] theorem State.returnFromInterrupt_f (s : State) : (s.returnFromInterrupt).f = s.f := rfl
@[simp] theorem State.returnFromInterrupt_b (s : State) : (s.returnFromInterrupt).b = s.b := rfl
@[simp] theorem State.returnFromInterrupt_c (s : State) : (s.returnFromInterrupt).c = s.c := rfl
@[simp] theorem State.returnFromInterrupt_d (s : State) : (s.returnFromInterrupt).d = s.d := rfl
@[simp] theorem State.returnFromInterrupt_e (s : State) : (s.returnFromInterrupt).e = s.e := rfl
@[simp] theorem State.returnFromInterrupt_h (s : State) : (s.returnFromInterrupt).h = s.h := rfl
@[simp] theorem State.returnFromInterrupt_l (s : State) : (s.returnFromInterrupt).l = s.l := rfl
@[simp] theorem State.returnFromInterrupt_halted (s : State) : (s.returnFromInterrupt).halted = s.halted := rfl
@[simp] theorem State.returnFromInterrupt_stopped (s : State) : (s.returnFromInterrupt).stopped = s.stopped := rfl
@[simp] theorem State.returnFromInterrupt_events (s : State) : (s.returnFromInterrupt).events = s.events := rfl

@[simp] theorem State.returnFromInterrupt_sp (s : State) : s.returnFromInterrupt.sp = s.sp + 2 := rfl
@[simp] theorem State.returnFromInterrupt_pc (s : State) : s.returnFromInterrupt.pc = s.pop16.1 := rfl
@[simp] theorem State.returnFromInterrupt_ime (s : State) : s.returnFromInterrupt.ime = true := rfl

@[simp] theorem State.raiseIllegalOpcode_a (s : State) : (s.raiseIllegalOpcode).a = s.a := rfl
@[simp] theorem State.raiseIllegalOpcode_f (s : State) : (s.raiseIllegalOpcode).f = s.f := rfl
@[simp] theorem State.raiseIllegalOpcode_b (s : State) : (s.raiseIllegalOpcode).b = s.b := rfl
@[simp] theorem State.raiseIllegalOpcode_c (s : State) : (s.raiseIllegalOpcode).c = s.c := rfl
@[simp] theorem State.raiseIllegalOpcode_d (s : State) : (s.raiseIllegalOpcode).d = s.d := rfl
@[simp] theorem State.raiseIllegalOpcode_e (s : State) : (s.raiseIllegalOpcode).e = s.e := rfl
@[simp] theorem State.raiseIllegalOpcode_h (s : State) : (s.raiseIllegalOpcode).h = s.h := rfl
@[simp] theorem State.raiseIllegalOpcode_l (s : State) : (s.raiseIllegalOpcode).l = s.l := rfl
@[simp] theorem State.raiseIllegalOpcode_sp (s : State) : (s.raiseIllegalOpcode).sp = s.sp := rfl
@[simp] theorem State.raiseIllegalOpcode_pc (s : State) : (s.raiseIllegalOpcode).pc = s.pc := rfl
@[simp] theorem State.raiseIllegalOpcode_ime (s : State) : (s.raiseIllegalOpcode).ime = s.ime := rfl
@[simp] theorem State.raiseIllegalOpcode_halted (s : State) : (s.raiseIllegalOpcode).halted = s.halted := rfl
@[simp] theorem State.raiseIllegalOpcode_bus (s : State) : (s.raiseIllegalOpcode).bus = s.bus := rfl
@[simp] theorem State.raiseIllegalOpcode_events (s : State) : (s.raiseIllegalOpcode).events = s.events := rfl

@[simp] theorem State.raiseIllegalOpcode_stopped (s : State) : s.raiseIllegalOpcode.stopped = true := rfl

end Sys2Proof.Machine
end

