-- ==== Sys2Proof/Laws/Words.lean ====
section
/-! SUPPORT. Words and their bytes (R10, R11, R102). -/

namespace Sys2Proof

@[simp] theorem concat_toNat (hi lo : Byte) : (concat hi lo).toNat = hi.toNat * 256 + lo.toNat := by
  have h := lo.isLt
  simp only [concat, BitVec.toNat_append]
  rw [← Nat.shiftLeft_add_eq_or_of_lt h, Nat.shiftLeft_eq]

@[simp] theorem highByte_toNat (v : Word) : (highByte v).toNat = v.toNat / 256 := by
  have h := v.isLt
  simp only [highByte, BitVec.extractLsb'_toNat, Nat.shiftRight_eq_div_pow]
  omega

@[simp] theorem lowByte_toNat (v : Word) : (lowByte v).toNat = v.toNat % 256 := by
  simp [lowByte, BitVec.extractLsb'_toNat]

/-- R102: a pair's two halves make it up. -/
@[simp] theorem concat_high_low (v : Word) : concat (highByte v) (lowByte v) = v := by
  apply BitVec.eq_of_toNat_eq
  simp only [concat_toNat, highByte_toNat, lowByte_toNat]
  omega

@[simp] theorem highByte_concat (hi lo : Byte) : highByte (concat hi lo) = hi := by
  apply BitVec.eq_of_toNat_eq
  have h := lo.isLt
  simp only [concat_toNat, highByte_toNat]
  omega

@[simp] theorem lowByte_concat (hi lo : Byte) : lowByte (concat hi lo) = lo := by
  apply BitVec.eq_of_toNat_eq
  have h := lo.isLt
  simp only [concat_toNat, lowByte_toNat]
  omega

/-- R11: `sext_16(b)` is `b` below 0x80 and `b + 0xFF00` from there on. -/
theorem sext16_toNat (b : Byte) : (sext16 b).toNat = if b.toNat < 0x80 then b.toNat else b.toNat + 0xFF00 := by
  have h := b.isLt
  simp only [sext16, BitVec.toNat_signExtend, BitVec.msb_eq_decide, BitVec.toNat_setWidth]
  by_cases hb : b.toNat < 0x80
  · simp [hb, Nat.not_le.mpr hb]; omega
  · simp [hb, Nat.not_lt.mp hb]; omega

/-- R202: the two addresses of a 16-bit access differ, at the wrap too. -/
theorem succ_ne_self (addr : Word) : addr + 1 ≠ addr := by
  intro h
  bv_omega

end Sys2Proof
end

