-- ==== Sys2Proof/Laws/Bus.lean ====
section
/-! SUPPORT. What the bus, the stack and the fetch do, once each. -/

namespace Sys2Proof.Machine

/-- On the RAM bus a read returns the RAM byte (R211). -/
theorem State.answer_ram (s : State) (addr : Word) (h : s.bus.answers = []) : s.answer addr = s.peek addr := by
  simp [State.answer, h]

/-- With an answer pending a read returns it, whatever the address and the RAM (R201). -/
theorem State.answer_pending (s : State) (addr : Word) (v : Byte) (rest : List Byte) (h : s.bus.answers = v :: rest) :
    s.answer addr = v := by
  simp [State.answer, h]

theorem State.busWrite_peek_other (s : State) (addr at' : Word) (v : Byte) (h : at' ≠ addr) :
    (s.busWrite addr v).peek at' = s.peek at' := by
  have hn : at'.toNat ≠ addr.toNat := fun e => h (BitVec.eq_of_toNat_eq e)
  exact Memory.peek_poke_other s.bus.mem addr.toNat at'.toNat v hn

theorem State.busWrite_peek_self (s : State) (addr : Word) (v : Byte) (h : Memory.wf s.bus.mem = true) :
    (s.busWrite addr v).peek addr = v :=
  Memory.peek_poke_self s.bus.mem addr.toNat v h

theorem State.busWrite_wf (s : State) (addr : Word) (v : Byte) (h : Memory.wf s.bus.mem = true) :
    Memory.wf (s.busWrite addr v).bus.mem = true :=
  Memory.poke_wf s.bus.mem addr v h

/-- Everything `State.busWrite16` does: two calls, low byte at the lower address first (R202), in the canonical form. -/
theorem State.busWrite16_spec (s : State) (addr v : Word) :
    s.busWrite16 addr v = (s.busWrite addr (lowByte v)).busWrite (addr + 1) (highByte v) := rfl

theorem State.busWrite16_peek_other (s : State) (addr v at' : Word) (h0 : at' ≠ addr) (h1 : at' ≠ addr + 1) :
    (s.busWrite16 addr v).peek at' = s.peek at' := by
  rw [State.busWrite16_spec, State.busWrite_peek_other _ _ _ _ h1, State.busWrite_peek_other _ _ _ _ h0]

theorem State.busWrite16_peek_low (s : State) (addr v : Word) (h : Memory.wf s.bus.mem = true) :
    (s.busWrite16 addr v).peek addr = lowByte v := by
  rw [State.busWrite16_spec, State.busWrite_peek_other _ _ _ _ (succ_ne_self addr).symm,
    State.busWrite_peek_self _ _ _ h]

theorem State.busWrite16_peek_high (s : State) (addr v : Word) (h : Memory.wf s.bus.mem = true) :
    (s.busWrite16 addr v).peek (addr + 1) = highByte v :=
  State.busWrite_peek_self _ _ _ (State.busWrite_wf _ _ _ h)

theorem State.busWrite16_wf (s : State) (addr v : Word) (h : Memory.wf s.bus.mem = true) :
    Memory.wf (s.busWrite16 addr v).bus.mem = true :=
  State.busWrite_wf _ _ _ (State.busWrite_wf _ _ _ h)

/-- On the RAM bus a 16-bit read is the two RAM bytes, low byte at the lower address (R202). -/
theorem State.busRead16_ram (s : State) (addr : Word) (h : s.bus.answers = []) :
    (s.busRead16 addr).1 = concat (s.peek (addr + 1)) (s.peek addr) := by
  simp [State.busRead16, State.answer, h]

/-- On the RAM bus a 16-bit read gives the two RAM bytes and reaches nothing but the list of calls. -/
theorem State.busRead16_ram_eq (s : State) (addr : Word) (h : s.bus.answers = []) :
    s.busRead16 addr = (concat (s.peek (addr + 1)) (s.peek addr),
      { s with bus := { s.bus with
          calls := .read (addr + 1) (s.peek (addr + 1)) :: .read addr (s.peek addr) :: s.bus.calls } }) := by
  obtain ⟨a, f, b, c, d, e, h', l, sp, pc, ime, ha, st, ⟨mem, answers, calls⟩, ev⟩ := s
  subst h
  rfl

/-- On the RAM bus `Pop16` gives the two RAM bytes at SP, and reaches nothing but SP and the list of calls (R501). -/
theorem State.pop16_ram (s : State) (h : s.bus.answers = []) :
    s.pop16 = (concat (s.peek (s.sp + 1)) (s.peek s.sp),
      { s with sp := s.sp + 2, bus := { s.bus with
          calls := .read (s.sp + 1) (s.peek (s.sp + 1)) :: .read s.sp (s.peek s.sp) :: s.bus.calls } }) := by
  simp [State.pop16, State.busRead16_ram_eq s s.sp h]

/-- `Push16` reaches nothing but SP and the bus (R500). -/
theorem State.push16_spec (s : State) (v : Word) :
    s.push16 v =
      { s with
        sp := s.sp - 2
        bus := ((s.busWrite (s.sp - 2) (lowByte v)).busWrite (s.sp - 2 + 1) (highByte v)).bus } := rfl

theorem State.push16_peek_low (s : State) (v : Word) (h : Memory.wf s.bus.mem = true) :
    (s.push16 v).peek (s.sp - 2) = lowByte v :=
  State.busWrite16_peek_low { s with sp := s.sp - 2 } _ _ h

theorem State.push16_peek_high (s : State) (v : Word) (h : Memory.wf s.bus.mem = true) :
    (s.push16 v).peek (s.sp - 2 + 1) = highByte v :=
  State.busWrite16_peek_high { s with sp := s.sp - 2 } _ _ h

theorem State.push16_peek_other (s : State) (v at' : Word) (h0 : at' ≠ s.sp - 2) (h1 : at' ≠ s.sp - 2 + 1) :
    (s.push16 v).peek at' = s.peek at' :=
  State.busWrite16_peek_other { s with sp := s.sp - 2 } _ _ _ h0 h1

theorem State.push16_wf (s : State) (v : Word) (h : Memory.wf s.bus.mem = true) :
    Memory.wf (s.push16 v).bus.mem = true :=
  State.busWrite16_wf { s with sp := s.sp - 2 } _ _ h

/-- The calls of a 16-bit read, newest first, and the answers it takes. -/
theorem State.busRead16_bus (s : State) (addr : Word) :
    (s.busRead16 addr).2.bus.mem = s.bus.mem ∧ (s.busRead16 addr).2.bus.answers = s.bus.answers.drop 2 ∧
      (s.busRead16 addr).2.bus.calls =
        .read (addr + 1) ((s.afterRead addr).answer (addr + 1)) :: .read addr (s.answer addr) :: s.bus.calls := by
  refine ⟨rfl, ?_, rfl⟩
  change s.bus.answers.tail.tail = s.bus.answers.drop 2
  rw [← List.drop_one, ← List.drop_one, List.drop_drop]

/-- Fetching keeps the RAM. -/
@[simp] theorem State.fetchBytes_mem (n : Nat) (s : State) : (s.fetchBytes n).2.bus.mem = s.bus.mem := by
  induction n generalizing s with
  | zero => rfl
  | succ n ih => simp [State.fetchBytes, ih]

@[simp] theorem State.fetchBytes_length (n : Nat) (s : State) : (s.fetchBytes n).1.length = n := by
  induction n generalizing s with
  | zero => rfl
  | succ n ih => simp [State.fetchBytes, ih]

@[simp] theorem State.fetchInstr_mem (len : StopLength) (s : State) : (s.fetchInstr len).2.bus.mem = s.bus.mem := by
  simp [State.fetchInstr]

/-- Fetching reaches PC and the bus, and nothing else of the state. -/
theorem State.fetchBytes_frame (n : Nat) (s : State) :
    ∃ bus pc, (s.fetchBytes n).2 = { s with bus := bus, pc := pc } := by
  induction n generalizing s with
  | zero => exact ⟨s.bus, s.pc, rfl⟩
  | succ n ih =>
    obtain ⟨bus, pc, h⟩ := ih s.fetch8.2
    exact ⟨bus, pc, h⟩

theorem State.fetchInstr_frame (len : StopLength) (s : State) :
    ∃ bus pc, (s.fetchInstr len).2 = { s with bus := bus, pc := pc } := by
  obtain ⟨bus, pc, h⟩ := State.fetchBytes_frame (instrLength len s.fetch8.1 - 1) s.fetch8.2
  exact ⟨bus, pc, h⟩

/-- No dispatcher move leaves the canonical form. -/
theorem State.dispatcherMove_wf (s : State) (m : DispatcherMove) (h : Memory.wf s.bus.mem = true) :
    Memory.wf (s.dispatcherMove m).bus.mem = true := by
  cases m with
  | busWrite addr v => exact State.busWrite_wf s addr v h
  | _ => exact h

end Sys2Proof.Machine
end

