-- ==== Sys2Proof/Laws/Decode.lean ====
section
/-! SUPPORT. What the decoder reads from an instruction of one, two and three bytes, whatever bytes follow it. -/

namespace Sys2Proof

theorem decode_one (len : StopLength) (op : Byte) (rest : List Byte) (h : instrLength len op = 1) :
    decode len (op :: rest) = .ok (decodeOpcode len op (rest.getD 0 0x00#8) (rest.getD 1 0x00#8), rest) := by
  simp [decode, h]

theorem decode_two (len : StopLength) (op b1 : Byte) (rest : List Byte) (h : instrLength len op = 2) :
    decode len (op :: b1 :: rest) = .ok (decodeOpcode len op b1 (rest.getD 0 0x00#8), rest) := by
  simp [decode, h]

theorem decode_three (len : StopLength) (op b1 b2 : Byte) (rest : List Byte) (h : instrLength len op = 3) :
    decode len (op :: b1 :: b2 :: rest) = .ok (decodeOpcode len op b1 b2, rest) := by
  simp [decode, h]

/-- R309: an instruction has one, two or three bytes. -/
theorem instrLength_cases (len : StopLength) (op : Byte) :
    instrLength len op = 1 ∨ instrLength len op = 2 ∨ instrLength len op = 3 := by
  simp only [instrLength]
  split
  · cases len <;> simp [StopLength.toNat]
  · split
    · simp
    · split <;> simp

end Sys2Proof
end

