-- ==== Sys2Proof/Laws/Families.lean ====
section
/-! SUPPORT. The instructions by family, with the operand as a variable: a claim about every instruction follows from one
case per family (`Instr.byFamily`), and each family's meaning is one shared operation (`exec_*`). -/

namespace Sys2Proof

/-- A claim holds of every instruction if it holds of every family, whatever the operands. -/
theorem Instr.byFamily {P : Instr → Prop}
    (load : ∀ (y : R8) (z : R8), P (.load y z))
    (alu : ∀ (op : AluOp) (m : R8), P (.alu op m))
    (shift : ∀ (op : ShiftOp) (m : R8), P (.shift op m))
    (bit : ∀ (b : Octal) (m : R8), P (.bit b m))
    (res : ∀ (b : Octal) (m : R8), P (.res b m))
    (set : ∀ (b : Octal) (m : R8), P (.set b m))
    (aluImm : ∀ (op : AluOp) (n : Byte), P (.aluImm op n))
    (inc : ∀ (m : R8), P (.inc m))
    (dec : ∀ (m : R8), P (.dec m))
    (loadImm : ∀ (m : R8) (n : Byte), P (.loadImm m n))
    (loadRp : ∀ (p : Rp) (nn : Word), P (.loadRp p nn))
    (addHl : ∀ (p : Rp), P (.addHl p))
    (incRp : ∀ (p : Rp), P (.incRp p))
    (decRp : ∀ (p : Rp), P (.decRp p))
    (storeInd : ∀ (p : Ind), P (.storeInd p))
    (loadInd : ∀ (p : Ind), P (.loadInd p))
    (push : ∀ (q : Rp2), P (.push q))
    (pop : ∀ (q : Rp2), P (.pop q))
    (jrCond : ∀ (cc : Cond) (e : Byte), P (.jrCond cc e))
    (jpCond : ∀ (cc : Cond) (nn : Word), P (.jpCond cc nn))
    (callCond : ∀ (cc : Cond) (nn : Word), P (.callCond cc nn))
    (retCond : ∀ (cc : Cond), P (.retCond cc))
    (rst : ∀ (y : Octal), P (.rst y))
    (nop : P .nop)
    (rlca : P .rlca)
    (ldAtN16Sp : ∀ (nn : Word), P (.ldAtN16Sp nn))
    (rrca : P .rrca)
    (stop : ∀ (ignored : Byte), P (.stop ignored))
    (rla : P .rla)
    (jrE8 : ∀ (e : Byte), P (.jrE8 e))
    (rra : P .rra)
    (daa : P .daa)
    (cpl : P .cpl)
    (scf : P .scf)
    (ccf : P .ccf)
    (jpN16 : ∀ (nn : Word), P (.jpN16 nn))
    (ret : P .ret)
    (callN16 : ∀ (nn : Word), P (.callN16 nn))
    (reti : P .reti)
    (ldhAtN8A : ∀ (n : Byte), P (.ldhAtN8A n))
    (ldAtCA : P .ldAtCA)
    (addSpE8 : ∀ (e : Byte), P (.addSpE8 e))
    (jpHl : P .jpHl)
    (ldAtN16A : ∀ (nn : Word), P (.ldAtN16A nn))
    (ldhAAtN8 : ∀ (n : Byte), P (.ldhAAtN8 n))
    (ldAAtC : P .ldAAtC)
    (di : P .di)
    (ldHlSpE8 : ∀ (e : Byte), P (.ldHlSpE8 e))
    (ldSpHl : P .ldSpHl)
    (ldAAtN16 : ∀ (nn : Word), P (.ldAAtN16 nn))
    (ei : P .ei)
    (illegal : ∀ i : Instr, i.isIllegal = true → P i) :
    ∀ i, P i := by
  intro i
  cases i with
  | ldBcN16 nn => exact loadRp .bc nn
  | ldBN8 n => exact loadImm .b n
  | ldAtN16Sp nn => exact ldAtN16Sp nn
  | ldCN8 n => exact loadImm .c n
  | stop ignored => exact stop ignored
  | ldDeN16 nn => exact loadRp .de nn
  | ldDN8 n => exact loadImm .d n
  | jrE8 e => exact jrE8 e
  | ldEN8 n => exact loadImm .e n
  | jrNzE8 e => exact jrCond .nz e
  | ldHlN16 nn => exact loadRp .hl nn
  | ldHN8 n => exact loadImm .h n
  | jrZE8 e => exact jrCond .z e
  | ldLN8 n => exact loadImm .l n
  | jrNcE8 e => exact jrCond .nc e
  | ldSpN16 nn => exact loadRp .sp nn
  | ldAtHlN8 n => exact loadImm .atHl n
  | jrCE8 e => exact jrCond .c e
  | ldAN8 n => exact loadImm .a n
  | jpNzN16 nn => exact jpCond .nz nn
  | jpN16 nn => exact jpN16 nn
  | callNzN16 nn => exact callCond .nz nn
  | addAN8 n => exact aluImm .add n
  | jpZN16 nn => exact jpCond .z nn
  | callZN16 nn => exact callCond .z nn
  | callN16 nn => exact callN16 nn
  | adcAN8 n => exact aluImm .adc n
  | jpNcN16 nn => exact jpCond .nc nn
  | callNcN16 nn => exact callCond .nc nn
  | subN8 n => exact aluImm .sub n
  | jpCN16 nn => exact jpCond .c nn
  | callCN16 nn => exact callCond .c nn
  | sbcAN8 n => exact aluImm .sbc n
  | ldhAtN8A n => exact ldhAtN8A n
  | andN8 n => exact aluImm .and n
  | addSpE8 e => exact addSpE8 e
  | ldAtN16A nn => exact ldAtN16A nn
  | xorN8 n => exact aluImm .xor n
  | ldhAAtN8 n => exact ldhAAtN8 n
  | orN8 n => exact aluImm .or n
  | ldHlSpE8 e => exact ldHlSpE8 e
  | ldAAtN16 nn => exact ldAAtN16 nn
  | cpN8 n => exact aluImm .cp n
  | nop => exact nop
  | ldAtBcA => exact storeInd .bc
  | incBc => exact incRp .bc
  | incB => exact inc .b
  | decB => exact dec .b
  | rlca => exact rlca
  | addHlBc => exact addHl .bc
  | ldAAtBc => exact loadInd .bc
  | decBc => exact decRp .bc
  | incC => exact inc .c
  | decC => exact dec .c
  | rrca => exact rrca
  | ldAtDeA => exact storeInd .de
  | incDe => exact incRp .de
  | incD => exact inc .d
  | decD => exact dec .d
  | rla => exact rla
  | addHlDe => exact addHl .de
  | ldAAtDe => exact loadInd .de
  | decDe => exact decRp .de
  | incE => exact inc .e
  | decE => exact dec .e
  | rra => exact rra
  | ldAtHlIncA => exact storeInd .hlInc
  | incHl => exact incRp .hl
  | incH => exact inc .h
  | decH => exact dec .h
  | daa => exact daa
  | addHlHl => exact addHl .hl
  | ldAAtHlInc => exact loadInd .hlInc
  | decHl => exact decRp .hl
  | incL => exact inc .l
  | decL => exact dec .l
  | cpl => exact cpl
  | ldAtHlDecA => exact storeInd .hlDec
  | incSp => exact incRp .sp
  | incAtHl => exact inc .atHl
  | decAtHl => exact dec .atHl
  | scf => exact scf
  | addHlSp => exact addHl .sp
  | ldAAtHlDec => exact loadInd .hlDec
  | decSp => exact decRp .sp
  | incA => exact inc .a
  | decA => exact dec .a
  | ccf => exact ccf
  | ldBB => exact load .b .b
  | ldBC => exact load .b .c
  | ldBD => exact load .b .d
  | ldBE => exact load .b .e
  | ldBH => exact load .b .h
  | ldBL => exact load .b .l
  | ldBAtHl => exact load .b .atHl
  | ldBA => exact load .b .a
  | ldCB => exact load .c .b
  | ldCC => exact load .c .c
  | ldCD => exact load .c .d
  | ldCE => exact load .c .e
  | ldCH => exact load .c .h
  | ldCL => exact load .c .l
  | ldCAtHl => exact load .c .atHl
  | ldCA => exact load .c .a
  | ldDB => exact load .d .b
  | ldDC => exact load .d .c
  | ldDD => exact load .d .d
  | ldDE => exact load .d .e
  | ldDH => exact load .d .h
  | ldDL => exact load .d .l
  | ldDAtHl => exact load .d .atHl
  | ldDA => exact load .d .a
  | ldEB => exact load .e .b
  | ldEC => exact load .e .c
  | ldED => exact load .e .d
  | ldEE => exact load .e .e
  | ldEH => exact load .e .h
  | ldEL => exact load .e .l
  | ldEAtHl => exact load .e .atHl
  | ldEA => exact load .e .a
  | ldHB => exact load .h .b
  | ldHC => exact load .h .c
  | ldHD => exact load .h .d
  | ldHE => exact load .h .e
  | ldHH => exact load .h .h
  | ldHL => exact load .h .l
  | ldHAtHl => exact load .h .atHl
  | ldHA => exact load .h .a
  | ldLB => exact load .l .b
  | ldLC => exact load .l .c
  | ldLD => exact load .l .d
  | ldLE => exact load .l .e
  | ldLH => exact load .l .h
  | ldLL => exact load .l .l
  | ldLAtHl => exact load .l .atHl
  | ldLA => exact load .l .a
  | ldAtHlB => exact load .atHl .b
  | ldAtHlC => exact load .atHl .c
  | ldAtHlD => exact load .atHl .d
  | ldAtHlE => exact load .atHl .e
  | ldAtHlH => exact load .atHl .h
  | ldAtHlL => exact load .atHl .l
  | halt => exact load .atHl .atHl
  | ldAtHlA => exact load .atHl .a
  | ldAB => exact load .a .b
  | ldAC => exact load .a .c
  | ldAD => exact load .a .d
  | ldAE => exact load .a .e
  | ldAH => exact load .a .h
  | ldAL => exact load .a .l
  | ldAAtHl => exact load .a .atHl
  | ldAA => exact load .a .a
  | addAB => exact alu .add .b
  | addAC => exact alu .add .c
  | addAD => exact alu .add .d
  | addAE => exact alu .add .e
  | addAH => exact alu .add .h
  | addAL => exact alu .add .l
  | addAAtHl => exact alu .add .atHl
  | addAA => exact alu .add .a
  | adcAB => exact alu .adc .b
  | adcAC => exact alu .adc .c
  | adcAD => exact alu .adc .d
  | adcAE => exact alu .adc .e
  | adcAH => exact alu .adc .h
  | adcAL => exact alu .adc .l
  | adcAAtHl => exact alu .adc .atHl
  | adcAA => exact alu .adc .a
  | subB => exact alu .sub .b
  | subC => exact alu .sub .c
  | subD => exact alu .sub .d
  | subE => exact alu .sub .e
  | subH => exact alu .sub .h
  | subL => exact alu .sub .l
  | subAtHl => exact alu .sub .atHl
  | subA => exact alu .sub .a
  | sbcAB => exact alu .sbc .b
  | sbcAC => exact alu .sbc .c
  | sbcAD => exact alu .sbc .d
  | sbcAE => exact alu .sbc .e
  | sbcAH => exact alu .sbc .h
  | sbcAL => exact alu .sbc .l
  | sbcAAtHl => exact alu .sbc .atHl
  | sbcAA => exact alu .sbc .a
  | andB => exact alu .and .b
  | andC => exact alu .and .c
  | andD => exact alu .and .d
  | andE => exact alu .and .e
  | andH => exact alu .and .h
  | andL => exact alu .and .l
  | andAtHl => exact alu .and .atHl
  | andA => exact alu .and .a
  | xorB => exact alu .xor .b
  | xorC => exact alu .xor .c
  | xorD => exact alu .xor .d
  | xorE => exact alu .xor .e
  | xorH => exact alu .xor .h
  | xorL => exact alu .xor .l
  | xorAtHl => exact alu .xor .atHl
  | xorA => exact alu .xor .a
  | orB => exact alu .or .b
  | orC => exact alu .or .c
  | orD => exact alu .or .d
  | orE => exact alu .or .e
  | orH => exact alu .or .h
  | orL => exact alu .or .l
  | orAtHl => exact alu .or .atHl
  | orA => exact alu .or .a
  | cpB => exact alu .cp .b
  | cpC => exact alu .cp .c
  | cpD => exact alu .cp .d
  | cpE => exact alu .cp .e
  | cpH => exact alu .cp .h
  | cpL => exact alu .cp .l
  | cpAtHl => exact alu .cp .atHl
  | cpA => exact alu .cp .a
  | retNz => exact retCond .nz
  | popBc => exact pop .bc
  | pushBc => exact push .bc
  | rst00 => exact rst .n0
  | retZ => exact retCond .z
  | ret => exact ret
  | rst08 => exact rst .n1
  | retNc => exact retCond .nc
  | popDe => exact pop .de
  | illegalD3 => exact illegal _ rfl
  | pushDe => exact push .de
  | rst10 => exact rst .n2
  | retC => exact retCond .c
  | reti => exact reti
  | illegalDB => exact illegal _ rfl
  | illegalDD => exact illegal _ rfl
  | rst18 => exact rst .n3
  | popHl => exact pop .hl
  | ldAtCA => exact ldAtCA
  | illegalE3 => exact illegal _ rfl
  | illegalE4 => exact illegal _ rfl
  | pushHl => exact push .hl
  | rst20 => exact rst .n4
  | jpHl => exact jpHl
  | illegalEB => exact illegal _ rfl
  | illegalEC => exact illegal _ rfl
  | illegalED => exact illegal _ rfl
  | rst28 => exact rst .n5
  | popAf => exact pop .af
  | ldAAtC => exact ldAAtC
  | di => exact di
  | illegalF4 => exact illegal _ rfl
  | pushAf => exact push .af
  | rst30 => exact rst .n6
  | ldSpHl => exact ldSpHl
  | ei => exact ei
  | illegalFC => exact illegal _ rfl
  | illegalFD => exact illegal _ rfl
  | rst38 => exact rst .n7
  | cbRlcB => exact shift .rlc .b
  | cbRlcC => exact shift .rlc .c
  | cbRlcD => exact shift .rlc .d
  | cbRlcE => exact shift .rlc .e
  | cbRlcH => exact shift .rlc .h
  | cbRlcL => exact shift .rlc .l
  | cbRlcAtHl => exact shift .rlc .atHl
  | cbRlcA => exact shift .rlc .a
  | cbRrcB => exact shift .rrc .b
  | cbRrcC => exact shift .rrc .c
  | cbRrcD => exact shift .rrc .d
  | cbRrcE => exact shift .rrc .e
  | cbRrcH => exact shift .rrc .h
  | cbRrcL => exact shift .rrc .l
  | cbRrcAtHl => exact shift .rrc .atHl
  | cbRrcA => exact shift .rrc .a
  | cbRlB => exact shift .rl .b
  | cbRlC => exact shift .rl .c
  | cbRlD => exact shift .rl .d
  | cbRlE => exact shift .rl .e
  | cbRlH => exact shift .rl .h
  | cbRlL => exact shift .rl .l
  | cbRlAtHl => exact shift .rl .atHl
  | cbRlA => exact shift .rl .a
  | cbRrB => exact shift .rr .b
  | cbRrC => exact shift .rr .c
  | cbRrD => exact shift .rr .d
  | cbRrE => exact shift .rr .e
  | cbRrH => exact shift .rr .h
  | cbRrL => exact shift .rr .l
  | cbRrAtHl => exact shift .rr .atHl
  | cbRrA => exact shift .rr .a
  | cbSlaB => exact shift .sla .b
  | cbSlaC => exact shift .sla .c
  | cbSlaD => exact shift .sla .d
  | cbSlaE => exact shift .sla .e
  | cbSlaH => exact shift .sla .h
  | cbSlaL => exact shift .sla .l
  | cbSlaAtHl => exact shift .sla .atHl
  | cbSlaA => exact shift .sla .a
  | cbSraB => exact shift .sra .b
  | cbSraC => exact shift .sra .c
  | cbSraD => exact shift .sra .d
  | cbSraE => exact shift .sra .e
  | cbSraH => exact shift .sra .h
  | cbSraL => exact shift .sra .l
  | cbSraAtHl => exact shift .sra .atHl
  | cbSraA => exact shift .sra .a
  | cbSwapB => exact shift .swap .b
  | cbSwapC => exact shift .swap .c
  | cbSwapD => exact shift .swap .d
  | cbSwapE => exact shift .swap .e
  | cbSwapH => exact shift .swap .h
  | cbSwapL => exact shift .swap .l
  | cbSwapAtHl => exact shift .swap .atHl
  | cbSwapA => exact shift .swap .a
  | cbSrlB => exact shift .srl .b
  | cbSrlC => exact shift .srl .c
  | cbSrlD => exact shift .srl .d
  | cbSrlE => exact shift .srl .e
  | cbSrlH => exact shift .srl .h
  | cbSrlL => exact shift .srl .l
  | cbSrlAtHl => exact shift .srl .atHl
  | cbSrlA => exact shift .srl .a
  | cbBit0B => exact bit .n0 .b
  | cbBit0C => exact bit .n0 .c
  | cbBit0D => exact bit .n0 .d
  | cbBit0E => exact bit .n0 .e
  | cbBit0H => exact bit .n0 .h
  | cbBit0L => exact bit .n0 .l
  | cbBit0AtHl => exact bit .n0 .atHl
  | cbBit0A => exact bit .n0 .a
  | cbBit1B => exact bit .n1 .b
  | cbBit1C => exact bit .n1 .c
  | cbBit1D => exact bit .n1 .d
  | cbBit1E => exact bit .n1 .e
  | cbBit1H => exact bit .n1 .h
  | cbBit1L => exact bit .n1 .l
  | cbBit1AtHl => exact bit .n1 .atHl
  | cbBit1A => exact bit .n1 .a
  | cbBit2B => exact bit .n2 .b
  | cbBit2C => exact bit .n2 .c
  | cbBit2D => exact bit .n2 .d
  | cbBit2E => exact bit .n2 .e
  | cbBit2H => exact bit .n2 .h
  | cbBit2L => exact bit .n2 .l
  | cbBit2AtHl => exact bit .n2 .atHl
  | cbBit2A => exact bit .n2 .a
  | cbBit3B => exact bit .n3 .b
  | cbBit3C => exact bit .n3 .c
  | cbBit3D => exact bit .n3 .d
  | cbBit3E => exact bit .n3 .e
  | cbBit3H => exact bit .n3 .h
  | cbBit3L => exact bit .n3 .l
  | cbBit3AtHl => exact bit .n3 .atHl
  | cbBit3A => exact bit .n3 .a
  | cbBit4B => exact bit .n4 .b
  | cbBit4C => exact bit .n4 .c
  | cbBit4D => exact bit .n4 .d
  | cbBit4E => exact bit .n4 .e
  | cbBit4H => exact bit .n4 .h
  | cbBit4L => exact bit .n4 .l
  | cbBit4AtHl => exact bit .n4 .atHl
  | cbBit4A => exact bit .n4 .a
  | cbBit5B => exact bit .n5 .b
  | cbBit5C => exact bit .n5 .c
  | cbBit5D => exact bit .n5 .d
  | cbBit5E => exact bit .n5 .e
  | cbBit5H => exact bit .n5 .h
  | cbBit5L => exact bit .n5 .l
  | cbBit5AtHl => exact bit .n5 .atHl
  | cbBit5A => exact bit .n5 .a
  | cbBit6B => exact bit .n6 .b
  | cbBit6C => exact bit .n6 .c
  | cbBit6D => exact bit .n6 .d
  | cbBit6E => exact bit .n6 .e
  | cbBit6H => exact bit .n6 .h
  | cbBit6L => exact bit .n6 .l
  | cbBit6AtHl => exact bit .n6 .atHl
  | cbBit6A => exact bit .n6 .a
  | cbBit7B => exact bit .n7 .b
  | cbBit7C => exact bit .n7 .c
  | cbBit7D => exact bit .n7 .d
  | cbBit7E => exact bit .n7 .e
  | cbBit7H => exact bit .n7 .h
  | cbBit7L => exact bit .n7 .l
  | cbBit7AtHl => exact bit .n7 .atHl
  | cbBit7A => exact bit .n7 .a
  | cbRes0B => exact res .n0 .b
  | cbRes0C => exact res .n0 .c
  | cbRes0D => exact res .n0 .d
  | cbRes0E => exact res .n0 .e
  | cbRes0H => exact res .n0 .h
  | cbRes0L => exact res .n0 .l
  | cbRes0AtHl => exact res .n0 .atHl
  | cbRes0A => exact res .n0 .a
  | cbRes1B => exact res .n1 .b
  | cbRes1C => exact res .n1 .c
  | cbRes1D => exact res .n1 .d
  | cbRes1E => exact res .n1 .e
  | cbRes1H => exact res .n1 .h
  | cbRes1L => exact res .n1 .l
  | cbRes1AtHl => exact res .n1 .atHl
  | cbRes1A => exact res .n1 .a
  | cbRes2B => exact res .n2 .b
  | cbRes2C => exact res .n2 .c
  | cbRes2D => exact res .n2 .d
  | cbRes2E => exact res .n2 .e
  | cbRes2H => exact res .n2 .h
  | cbRes2L => exact res .n2 .l
  | cbRes2AtHl => exact res .n2 .atHl
  | cbRes2A => exact res .n2 .a
  | cbRes3B => exact res .n3 .b
  | cbRes3C => exact res .n3 .c
  | cbRes3D => exact res .n3 .d
  | cbRes3E => exact res .n3 .e
  | cbRes3H => exact res .n3 .h
  | cbRes3L => exact res .n3 .l
  | cbRes3AtHl => exact res .n3 .atHl
  | cbRes3A => exact res .n3 .a
  | cbRes4B => exact res .n4 .b
  | cbRes4C => exact res .n4 .c
  | cbRes4D => exact res .n4 .d
  | cbRes4E => exact res .n4 .e
  | cbRes4H => exact res .n4 .h
  | cbRes4L => exact res .n4 .l
  | cbRes4AtHl => exact res .n4 .atHl
  | cbRes4A => exact res .n4 .a
  | cbRes5B => exact res .n5 .b
  | cbRes5C => exact res .n5 .c
  | cbRes5D => exact res .n5 .d
  | cbRes5E => exact res .n5 .e
  | cbRes5H => exact res .n5 .h
  | cbRes5L => exact res .n5 .l
  | cbRes5AtHl => exact res .n5 .atHl
  | cbRes5A => exact res .n5 .a
  | cbRes6B => exact res .n6 .b
  | cbRes6C => exact res .n6 .c
  | cbRes6D => exact res .n6 .d
  | cbRes6E => exact res .n6 .e
  | cbRes6H => exact res .n6 .h
  | cbRes6L => exact res .n6 .l
  | cbRes6AtHl => exact res .n6 .atHl
  | cbRes6A => exact res .n6 .a
  | cbRes7B => exact res .n7 .b
  | cbRes7C => exact res .n7 .c
  | cbRes7D => exact res .n7 .d
  | cbRes7E => exact res .n7 .e
  | cbRes7H => exact res .n7 .h
  | cbRes7L => exact res .n7 .l
  | cbRes7AtHl => exact res .n7 .atHl
  | cbRes7A => exact res .n7 .a
  | cbSet0B => exact set .n0 .b
  | cbSet0C => exact set .n0 .c
  | cbSet0D => exact set .n0 .d
  | cbSet0E => exact set .n0 .e
  | cbSet0H => exact set .n0 .h
  | cbSet0L => exact set .n0 .l
  | cbSet0AtHl => exact set .n0 .atHl
  | cbSet0A => exact set .n0 .a
  | cbSet1B => exact set .n1 .b
  | cbSet1C => exact set .n1 .c
  | cbSet1D => exact set .n1 .d
  | cbSet1E => exact set .n1 .e
  | cbSet1H => exact set .n1 .h
  | cbSet1L => exact set .n1 .l
  | cbSet1AtHl => exact set .n1 .atHl
  | cbSet1A => exact set .n1 .a
  | cbSet2B => exact set .n2 .b
  | cbSet2C => exact set .n2 .c
  | cbSet2D => exact set .n2 .d
  | cbSet2E => exact set .n2 .e
  | cbSet2H => exact set .n2 .h
  | cbSet2L => exact set .n2 .l
  | cbSet2AtHl => exact set .n2 .atHl
  | cbSet2A => exact set .n2 .a
  | cbSet3B => exact set .n3 .b
  | cbSet3C => exact set .n3 .c
  | cbSet3D => exact set .n3 .d
  | cbSet3E => exact set .n3 .e
  | cbSet3H => exact set .n3 .h
  | cbSet3L => exact set .n3 .l
  | cbSet3AtHl => exact set .n3 .atHl
  | cbSet3A => exact set .n3 .a
  | cbSet4B => exact set .n4 .b
  | cbSet4C => exact set .n4 .c
  | cbSet4D => exact set .n4 .d
  | cbSet4E => exact set .n4 .e
  | cbSet4H => exact set .n4 .h
  | cbSet4L => exact set .n4 .l
  | cbSet4AtHl => exact set .n4 .atHl
  | cbSet4A => exact set .n4 .a
  | cbSet5B => exact set .n5 .b
  | cbSet5C => exact set .n5 .c
  | cbSet5D => exact set .n5 .d
  | cbSet5E => exact set .n5 .e
  | cbSet5H => exact set .n5 .h
  | cbSet5L => exact set .n5 .l
  | cbSet5AtHl => exact set .n5 .atHl
  | cbSet5A => exact set .n5 .a
  | cbSet6B => exact set .n6 .b
  | cbSet6C => exact set .n6 .c
  | cbSet6D => exact set .n6 .d
  | cbSet6E => exact set .n6 .e
  | cbSet6H => exact set .n6 .h
  | cbSet6L => exact set .n6 .l
  | cbSet6AtHl => exact set .n6 .atHl
  | cbSet6A => exact set .n6 .a
  | cbSet7B => exact set .n7 .b
  | cbSet7C => exact set .n7 .c
  | cbSet7D => exact set .n7 .d
  | cbSet7E => exact set .n7 .e
  | cbSet7H => exact set .n7 .h
  | cbSet7L => exact set .n7 .l
  | cbSet7AtHl => exact set .n7 .atHl
  | cbSet7A => exact set .n7 .a

end Sys2Proof

namespace Sys2Proof.Machine

/-- R400, R401, R402, R307. -/
theorem exec_load (y z : R8) (s : State) :
    exec (.load y z) s = if y = .atHl ∧ z = .atHl then execHalt s else loadFrom y z s := by
  cases y <;> cases z <;> rfl

/-- R602 to R616. -/
theorem exec_alu (op : AluOp) (m : R8) (s : State) :
    exec (.alu op m) s = aluOperand op m s := by
  cases op <;> cases m <;> rfl

/-- R603 to R617. -/
theorem exec_aluImm (op : AluOp) (n : Byte) (s : State) :
    exec (.aluImm op n) s = aluByte op n s := by
  cases op <;> rfl

/-- R618. -/
theorem exec_inc (m : R8) (s : State) :
    exec (.inc m) s = incOperand m s := by
  cases m <;> rfl

/-- R619. -/
theorem exec_dec (m : R8) (s : State) :
    exec (.dec m) s = decOperand m s := by
  cases m <;> rfl

/-- R403, R404. -/
theorem exec_loadImm (m : R8) (n : Byte) (s : State) :
    exec (.loadImm m n) s = loadByte m n s := by
  cases m <;> rfl

/-- R502. -/
theorem exec_loadRp (p : Rp) (nn : Word) (s : State) :
    exec (.loadRp p nn) s = .next (s.setRp p nn) := by
  cases p <;> rfl

/-- R801. -/
theorem exec_addHl (p : Rp) (s : State) :
    exec (.addHl p) s = addToHl p s := by
  cases p <;> rfl

/-- R802. -/
theorem exec_incRp (p : Rp) (s : State) :
    exec (.incRp p) s = .next (s.setRp p (s.rp p + 1)) := by
  cases p <;> rfl

/-- R803. -/
theorem exec_decRp (p : Rp) (s : State) :
    exec (.decRp p) s = .next (s.setRp p (s.rp p - 1)) := by
  cases p <;> rfl

/-- R405 to R408. -/
theorem exec_storeInd (p : Ind) (s : State) :
    exec (.storeInd p) s = storeIndirect p s := by
  cases p <;> rfl

/-- R409 to R412. -/
theorem exec_loadInd (p : Ind) (s : State) :
    exec (.loadInd p) s = loadIndirect p s := by
  cases p <;> rfl

/-- R505, R506. -/
theorem exec_push (q : Rp2) (s : State) :
    exec (.push q) s = pushPair q s := by
  cases q <;> rfl

/-- R507, R508. -/
theorem exec_pop (q : Rp2) (s : State) :
    exec (.pop q) s = popPair q s := by
  cases q <;> rfl

/-- R1105. -/
theorem exec_jrCond (cc : Cond) (e : Byte) (s : State) :
    exec (.jrCond cc e) s = jumpRelativeIf cc e s := by
  cases cc <;> rfl

/-- R1102. -/
theorem exec_jpCond (cc : Cond) (nn : Word) (s : State) :
    exec (.jpCond cc nn) s = jumpIf cc nn s := by
  cases cc <;> rfl

/-- R1107. -/
theorem exec_callCond (cc : Cond) (nn : Word) (s : State) :
    exec (.callCond cc nn) s = callIf cc nn s := by
  cases cc <;> rfl

/-- R1110. -/
theorem exec_retCond (cc : Cond) (s : State) :
    exec (.retCond cc) s = returnIf cc s := by
  cases cc <;> rfl

/-- R1111. -/
theorem exec_rst (y : Octal) (s : State) :
    exec (.rst y) s = .next (s.callTo (BitVec.ofNat 16 (y.toNat * 8))) := by
  cases y <;> rfl

/-- R1001 to R1008. -/
theorem exec_shift (op : ShiftOp) (m : R8) (s : State) :
    exec (.shift op m) s = shiftOperand op m s := by
  cases op <;> cases m <;> rfl

/-- R1009. -/
theorem exec_bit (b : Octal) (m : R8) (s : State) :
    exec (.bit b m) s = testBit b.toNat m s := by
  cases b <;> cases m <;> rfl

/-- R1010. -/
theorem exec_res (b : Octal) (m : R8) (s : State) :
    exec (.res b m) s = resetBit b.toNat m s := by
  cases b <;> cases m <;> rfl

/-- R1011. -/
theorem exec_set (b : Octal) (m : R8) (s : State) :
    exec (.set b m) s = setBit b.toNat m s := by
  cases b <;> cases m <;> rfl

/-- R905, R1201. -/
theorem exec_illegal (i : Instr) (s : State) (h : i.isIllegal = true) :
    exec i s = .next s.raiseIllegalOpcode := by
  cases i <;> first | rfl | exact absurd h Bool.false_ne_true

end Sys2Proof.Machine
end

