-- ==== Sys2Proof/Laws/Operands.lean ====
section
/-! SUPPORT. What resolving, reading and writing an operand location does, and the views a pair gives of its registers. -/

namespace Sys2Proof.Machine

@[simp] theorem State.resolve_register (s : State) (r : Reg8) : s.resolve r.r8 = .reg8 r := by
  cases r <;> rfl

@[simp] theorem State.resolve_atHl (s : State) : s.resolve .atHl = .mem s.hl := rfl

@[simp] theorem State.locValue_reg8 (s : State) (r : Reg8) : s.locValue (.reg8 r) = s.reg r := rfl
@[simp] theorem State.locValue_mem (s : State) (addr : Word) : s.locValue (.mem addr) = s.answer addr := rfl
@[simp] theorem State.afterLocRead_reg8 (s : State) (r : Reg8) : s.afterLocRead (.reg8 r) = s := rfl
@[simp] theorem State.afterLocRead_mem (s : State) (addr : Word) : s.afterLocRead (.mem addr) = s.afterRead addr := rfl
@[simp] theorem State.writeLoc_reg8 (s : State) (r : Reg8) (v : Byte) : s.writeLoc (.reg8 r) v = s.setReg r v := rfl
@[simp] theorem State.writeLoc_mem (s : State) (addr : Word) (v : Byte) : s.writeLoc (.mem addr) v = s.busWrite addr v :=
  rfl

/-- Reading a location reaches the bus and nothing else, and leaves the RAM. -/
theorem State.afterLocRead_frame (s : State) (loc : Loc) :
    ∃ bus : Bus, bus.mem = s.bus.mem ∧ s.afterLocRead loc = { s with bus := bus } := by
  cases loc with
  | reg8 r => exact ⟨s.bus, rfl, rfl⟩
  | mem addr => exact ⟨(s.afterRead addr).bus, rfl, rfl⟩

/-- Writing a location keeps the canonical form. -/
theorem State.writeLoc_wf (s : State) (loc : Loc) (v : Byte) (h : Memory.wf s.bus.mem = true) :
    Memory.wf (s.writeLoc loc v).bus.mem = true := by
  cases loc with
  | reg8 r => simpa using h
  | mem addr => exact State.busWrite_wf s addr v h

/-- Writing a location leaves the flags, SP, PC, the CPU state and the pending outside events. -/
theorem State.writeLoc_frame (s : State) (loc : Loc) (v : Byte) :
    (s.writeLoc loc v).f = s.f ∧ (s.writeLoc loc v).sp = s.sp ∧ (s.writeLoc loc v).pc = s.pc ∧
      (s.writeLoc loc v).ime = s.ime ∧ (s.writeLoc loc v).halted = s.halted ∧
      (s.writeLoc loc v).stopped = s.stopped ∧ (s.writeLoc loc v).events = s.events := by
  cases loc with
  | reg8 r => simp
  | mem addr => exact ⟨rfl, rfl, rfl, rfl, rfl, rfl, rfl⟩

/-- A pair reads back as it was written (R102). -/
@[simp] theorem State.rp_setRp (s : State) (p : Rp) (v : Word) : (s.setRp p v).rp p = v := by
  cases p <;> simp [State.setRp, State.rp, State.setBc, State.bc, State.setDe, State.de, State.setHl, State.hl]

/-- R1201: what the one exception changes. -/
theorem State.raiseIllegalOpcode_spec (s : State) : s.raiseIllegalOpcode = { s with stopped := true } := rfl

/-- R211, R131: the memory of the machine after its first reset is canonical. -/
theorem State.reset_memWf : State.reset.memWf = true := rfl

end Sys2Proof.Machine
end

