-- ==== Sys2Proof/Laws/PerInstr.lean ====
section
/-! SUPPORT. What holds of every instruction as syntax, one lemma per constructor of `Instr`. -/

namespace Sys2Proof.Laws.EncodeLength

/-- R309: the first byte of an instruction's encoding tells how many bytes it has. -/
def Statement (i : Instr) : Prop :=
  ∀ len : StopLength, ∃ op rest, encode len i = op :: rest ∧ instrLength len op = rest.length + 1

theorem ldBcN16 (nn : Word) : Statement (.ldBcN16 nn) := fun _ => ⟨_, _, rfl, rfl⟩
theorem ldBN8 (n : Byte) : Statement (.ldBN8 n) := fun _ => ⟨_, _, rfl, rfl⟩
theorem ldAtN16Sp (nn : Word) : Statement (.ldAtN16Sp nn) := fun _ => ⟨_, _, rfl, rfl⟩
theorem ldCN8 (n : Byte) : Statement (.ldCN8 n) := fun _ => ⟨_, _, rfl, rfl⟩
theorem stop (ignored : Byte) : Statement (.stop ignored) := fun len => by cases len <;> exact ⟨_, _, rfl, rfl⟩
theorem ldDeN16 (nn : Word) : Statement (.ldDeN16 nn) := fun _ => ⟨_, _, rfl, rfl⟩
theorem ldDN8 (n : Byte) : Statement (.ldDN8 n) := fun _ => ⟨_, _, rfl, rfl⟩
theorem jrE8 (e : Byte) : Statement (.jrE8 e) := fun _ => ⟨_, _, rfl, rfl⟩
theorem ldEN8 (n : Byte) : Statement (.ldEN8 n) := fun _ => ⟨_, _, rfl, rfl⟩
theorem jrNzE8 (e : Byte) : Statement (.jrNzE8 e) := fun _ => ⟨_, _, rfl, rfl⟩
theorem ldHlN16 (nn : Word) : Statement (.ldHlN16 nn) := fun _ => ⟨_, _, rfl, rfl⟩
theorem ldHN8 (n : Byte) : Statement (.ldHN8 n) := fun _ => ⟨_, _, rfl, rfl⟩
theorem jrZE8 (e : Byte) : Statement (.jrZE8 e) := fun _ => ⟨_, _, rfl, rfl⟩
theorem ldLN8 (n : Byte) : Statement (.ldLN8 n) := fun _ => ⟨_, _, rfl, rfl⟩
theorem jrNcE8 (e : Byte) : Statement (.jrNcE8 e) := fun _ => ⟨_, _, rfl, rfl⟩
theorem ldSpN16 (nn : Word) : Statement (.ldSpN16 nn) := fun _ => ⟨_, _, rfl, rfl⟩
theorem ldAtHlN8 (n : Byte) : Statement (.ldAtHlN8 n) := fun _ => ⟨_, _, rfl, rfl⟩
theorem jrCE8 (e : Byte) : Statement (.jrCE8 e) := fun _ => ⟨_, _, rfl, rfl⟩
theorem ldAN8 (n : Byte) : Statement (.ldAN8 n) := fun _ => ⟨_, _, rfl, rfl⟩
theorem jpNzN16 (nn : Word) : Statement (.jpNzN16 nn) := fun _ => ⟨_, _, rfl, rfl⟩
theorem jpN16 (nn : Word) : Statement (.jpN16 nn) := fun _ => ⟨_, _, rfl, rfl⟩
theorem callNzN16 (nn : Word) : Statement (.callNzN16 nn) := fun _ => ⟨_, _, rfl, rfl⟩
theorem addAN8 (n : Byte) : Statement (.addAN8 n) := fun _ => ⟨_, _, rfl, rfl⟩
theorem jpZN16 (nn : Word) : Statement (.jpZN16 nn) := fun _ => ⟨_, _, rfl, rfl⟩
theorem callZN16 (nn : Word) : Statement (.callZN16 nn) := fun _ => ⟨_, _, rfl, rfl⟩
theorem callN16 (nn : Word) : Statement (.callN16 nn) := fun _ => ⟨_, _, rfl, rfl⟩
theorem adcAN8 (n : Byte) : Statement (.adcAN8 n) := fun _ => ⟨_, _, rfl, rfl⟩
theorem jpNcN16 (nn : Word) : Statement (.jpNcN16 nn) := fun _ => ⟨_, _, rfl, rfl⟩
theorem callNcN16 (nn : Word) : Statement (.callNcN16 nn) := fun _ => ⟨_, _, rfl, rfl⟩
theorem subN8 (n : Byte) : Statement (.subN8 n) := fun _ => ⟨_, _, rfl, rfl⟩
theorem jpCN16 (nn : Word) : Statement (.jpCN16 nn) := fun _ => ⟨_, _, rfl, rfl⟩
theorem callCN16 (nn : Word) : Statement (.callCN16 nn) := fun _ => ⟨_, _, rfl, rfl⟩
theorem sbcAN8 (n : Byte) : Statement (.sbcAN8 n) := fun _ => ⟨_, _, rfl, rfl⟩
theorem ldhAtN8A (n : Byte) : Statement (.ldhAtN8A n) := fun _ => ⟨_, _, rfl, rfl⟩
theorem andN8 (n : Byte) : Statement (.andN8 n) := fun _ => ⟨_, _, rfl, rfl⟩
theorem addSpE8 (e : Byte) : Statement (.addSpE8 e) := fun _ => ⟨_, _, rfl, rfl⟩
theorem ldAtN16A (nn : Word) : Statement (.ldAtN16A nn) := fun _ => ⟨_, _, rfl, rfl⟩
theorem xorN8 (n : Byte) : Statement (.xorN8 n) := fun _ => ⟨_, _, rfl, rfl⟩
theorem ldhAAtN8 (n : Byte) : Statement (.ldhAAtN8 n) := fun _ => ⟨_, _, rfl, rfl⟩
theorem orN8 (n : Byte) : Statement (.orN8 n) := fun _ => ⟨_, _, rfl, rfl⟩
theorem ldHlSpE8 (e : Byte) : Statement (.ldHlSpE8 e) := fun _ => ⟨_, _, rfl, rfl⟩
theorem ldAAtN16 (nn : Word) : Statement (.ldAAtN16 nn) := fun _ => ⟨_, _, rfl, rfl⟩
theorem cpN8 (n : Byte) : Statement (.cpN8 n) := fun _ => ⟨_, _, rfl, rfl⟩
theorem nop : Statement .nop := fun _ => ⟨_, _, rfl, rfl⟩
theorem ldAtBcA : Statement .ldAtBcA := fun _ => ⟨_, _, rfl, rfl⟩
theorem incBc : Statement .incBc := fun _ => ⟨_, _, rfl, rfl⟩
theorem incB : Statement .incB := fun _ => ⟨_, _, rfl, rfl⟩
theorem decB : Statement .decB := fun _ => ⟨_, _, rfl, rfl⟩
theorem rlca : Statement .rlca := fun _ => ⟨_, _, rfl, rfl⟩
theorem addHlBc : Statement .addHlBc := fun _ => ⟨_, _, rfl, rfl⟩
theorem ldAAtBc : Statement .ldAAtBc := fun _ => ⟨_, _, rfl, rfl⟩
theorem decBc : Statement .decBc := fun _ => ⟨_, _, rfl, rfl⟩
theorem incC : Statement .incC := fun _ => ⟨_, _, rfl, rfl⟩
theorem decC : Statement .decC := fun _ => ⟨_, _, rfl, rfl⟩
theorem rrca : Statement .rrca := fun _ => ⟨_, _, rfl, rfl⟩
theorem ldAtDeA : Statement .ldAtDeA := fun _ => ⟨_, _, rfl, rfl⟩
theorem incDe : Statement .incDe := fun _ => ⟨_, _, rfl, rfl⟩
theorem incD : Statement .incD := fun _ => ⟨_, _, rfl, rfl⟩
theorem decD : Statement .decD := fun _ => ⟨_, _, rfl, rfl⟩
theorem rla : Statement .rla := fun _ => ⟨_, _, rfl, rfl⟩
theorem addHlDe : Statement .addHlDe := fun _ => ⟨_, _, rfl, rfl⟩
theorem ldAAtDe : Statement .ldAAtDe := fun _ => ⟨_, _, rfl, rfl⟩
theorem decDe : Statement .decDe := fun _ => ⟨_, _, rfl, rfl⟩
theorem incE : Statement .incE := fun _ => ⟨_, _, rfl, rfl⟩
theorem decE : Statement .decE := fun _ => ⟨_, _, rfl, rfl⟩
theorem rra : Statement .rra := fun _ => ⟨_, _, rfl, rfl⟩
theorem ldAtHlIncA : Statement .ldAtHlIncA := fun _ => ⟨_, _, rfl, rfl⟩
theorem incHl : Statement .incHl := fun _ => ⟨_, _, rfl, rfl⟩
theorem incH : Statement .incH := fun _ => ⟨_, _, rfl, rfl⟩
theorem decH : Statement .decH := fun _ => ⟨_, _, rfl, rfl⟩
theorem daa : Statement .daa := fun _ => ⟨_, _, rfl, rfl⟩
theorem addHlHl : Statement .addHlHl := fun _ => ⟨_, _, rfl, rfl⟩
theorem ldAAtHlInc : Statement .ldAAtHlInc := fun _ => ⟨_, _, rfl, rfl⟩
theorem decHl : Statement .decHl := fun _ => ⟨_, _, rfl, rfl⟩
theorem incL : Statement .incL := fun _ => ⟨_, _, rfl, rfl⟩
theorem decL : Statement .decL := fun _ => ⟨_, _, rfl, rfl⟩
theorem cpl : Statement .cpl := fun _ => ⟨_, _, rfl, rfl⟩
theorem ldAtHlDecA : Statement .ldAtHlDecA := fun _ => ⟨_, _, rfl, rfl⟩
theorem incSp : Statement .incSp := fun _ => ⟨_, _, rfl, rfl⟩
theorem incAtHl : Statement .incAtHl := fun _ => ⟨_, _, rfl, rfl⟩
theorem decAtHl : Statement .decAtHl := fun _ => ⟨_, _, rfl, rfl⟩
theorem scf : Statement .scf := fun _ => ⟨_, _, rfl, rfl⟩
theorem addHlSp : Statement .addHlSp := fun _ => ⟨_, _, rfl, rfl⟩
theorem ldAAtHlDec : Statement .ldAAtHlDec := fun _ => ⟨_, _, rfl, rfl⟩
theorem decSp : Statement .decSp := fun _ => ⟨_, _, rfl, rfl⟩
theorem incA : Statement .incA := fun _ => ⟨_, _, rfl, rfl⟩
theorem decA : Statement .decA := fun _ => ⟨_, _, rfl, rfl⟩
theorem ccf : Statement .ccf := fun _ => ⟨_, _, rfl, rfl⟩
theorem ldBB : Statement .ldBB := fun _ => ⟨_, _, rfl, rfl⟩
theorem ldBC : Statement .ldBC := fun _ => ⟨_, _, rfl, rfl⟩
theorem ldBD : Statement .ldBD := fun _ => ⟨_, _, rfl, rfl⟩
theorem ldBE : Statement .ldBE := fun _ => ⟨_, _, rfl, rfl⟩
theorem ldBH : Statement .ldBH := fun _ => ⟨_, _, rfl, rfl⟩
theorem ldBL : Statement .ldBL := fun _ => ⟨_, _, rfl, rfl⟩
theorem ldBAtHl : Statement .ldBAtHl := fun _ => ⟨_, _, rfl, rfl⟩
theorem ldBA : Statement .ldBA := fun _ => ⟨_, _, rfl, rfl⟩
theorem ldCB : Statement .ldCB := fun _ => ⟨_, _, rfl, rfl⟩
theorem ldCC : Statement .ldCC := fun _ => ⟨_, _, rfl, rfl⟩
theorem ldCD : Statement .ldCD := fun _ => ⟨_, _, rfl, rfl⟩
theorem ldCE : Statement .ldCE := fun _ => ⟨_, _, rfl, rfl⟩
theorem ldCH : Statement .ldCH := fun _ => ⟨_, _, rfl, rfl⟩
theorem ldCL : Statement .ldCL := fun _ => ⟨_, _, rfl, rfl⟩
theorem ldCAtHl : Statement .ldCAtHl := fun _ => ⟨_, _, rfl, rfl⟩
theorem ldCA : Statement .ldCA := fun _ => ⟨_, _, rfl, rfl⟩
theorem ldDB : Statement .ldDB := fun _ => ⟨_, _, rfl, rfl⟩
theorem ldDC : Statement .ldDC := fun _ => ⟨_, _, rfl, rfl⟩
theorem ldDD : Statement .ldDD := fun _ => ⟨_, _, rfl, rfl⟩
theorem ldDE : Statement .ldDE := fun _ => ⟨_, _, rfl, rfl⟩
theorem ldDH : Statement .ldDH := fun _ => ⟨_, _, rfl, rfl⟩
theorem ldDL : Statement .ldDL := fun _ => ⟨_, _, rfl, rfl⟩
theorem ldDAtHl : Statement .ldDAtHl := fun _ => ⟨_, _, rfl, rfl⟩
theorem ldDA : Statement .ldDA := fun _ => ⟨_, _, rfl, rfl⟩
theorem ldEB : Statement .ldEB := fun _ => ⟨_, _, rfl, rfl⟩
theorem ldEC : Statement .ldEC := fun _ => ⟨_, _, rfl, rfl⟩
theorem ldED : Statement .ldED := fun _ => ⟨_, _, rfl, rfl⟩
theorem ldEE : Statement .ldEE := fun _ => ⟨_, _, rfl, rfl⟩
theorem ldEH : Statement .ldEH := fun _ => ⟨_, _, rfl, rfl⟩
theorem ldEL : Statement .ldEL := fun _ => ⟨_, _, rfl, rfl⟩
theorem ldEAtHl : Statement .ldEAtHl := fun _ => ⟨_, _, rfl, rfl⟩
theorem ldEA : Statement .ldEA := fun _ => ⟨_, _, rfl, rfl⟩
theorem ldHB : Statement .ldHB := fun _ => ⟨_, _, rfl, rfl⟩
theorem ldHC : Statement .ldHC := fun _ => ⟨_, _, rfl, rfl⟩
theorem ldHD : Statement .ldHD := fun _ => ⟨_, _, rfl, rfl⟩
theorem ldHE : Statement .ldHE := fun _ => ⟨_, _, rfl, rfl⟩
theorem ldHH : Statement .ldHH := fun _ => ⟨_, _, rfl, rfl⟩
theorem ldHL : Statement .ldHL := fun _ => ⟨_, _, rfl, rfl⟩
theorem ldHAtHl : Statement .ldHAtHl := fun _ => ⟨_, _, rfl, rfl⟩
theorem ldHA : Statement .ldHA := fun _ => ⟨_, _, rfl, rfl⟩
theorem ldLB : Statement .ldLB := fun _ => ⟨_, _, rfl, rfl⟩
theorem ldLC : Statement .ldLC := fun _ => ⟨_, _, rfl, rfl⟩
theorem ldLD : Statement .ldLD := fun _ => ⟨_, _, rfl, rfl⟩
theorem ldLE : Statement .ldLE := fun _ => ⟨_, _, rfl, rfl⟩
theorem ldLH : Statement .ldLH := fun _ => ⟨_, _, rfl, rfl⟩
theorem ldLL : Statement .ldLL := fun _ => ⟨_, _, rfl, rfl⟩
theorem ldLAtHl : Statement .ldLAtHl := fun _ => ⟨_, _, rfl, rfl⟩
theorem ldLA : Statement .ldLA := fun _ => ⟨_, _, rfl, rfl⟩
theorem ldAtHlB : Statement .ldAtHlB := fun _ => ⟨_, _, rfl, rfl⟩
theorem ldAtHlC : Statement .ldAtHlC := fun _ => ⟨_, _, rfl, rfl⟩
theorem ldAtHlD : Statement .ldAtHlD := fun _ => ⟨_, _, rfl, rfl⟩
theorem ldAtHlE : Statement .ldAtHlE := fun _ => ⟨_, _, rfl, rfl⟩
theorem ldAtHlH : Statement .ldAtHlH := fun _ => ⟨_, _, rfl, rfl⟩
theorem ldAtHlL : Statement .ldAtHlL := fun _ => ⟨_, _, rfl, rfl⟩
theorem halt : Statement .halt := fun _ => ⟨_, _, rfl, rfl⟩
theorem ldAtHlA : Statement .ldAtHlA := fun _ => ⟨_, _, rfl, rfl⟩
theorem ldAB : Statement .ldAB := fun _ => ⟨_, _, rfl, rfl⟩
theorem ldAC : Statement .ldAC := fun _ => ⟨_, _, rfl, rfl⟩
theorem ldAD : Statement .ldAD := fun _ => ⟨_, _, rfl, rfl⟩
theorem ldAE : Statement .ldAE := fun _ => ⟨_, _, rfl, rfl⟩
theorem ldAH : Statement .ldAH := fun _ => ⟨_, _, rfl, rfl⟩
theorem ldAL : Statement .ldAL := fun _ => ⟨_, _, rfl, rfl⟩
theorem ldAAtHl : Statement .ldAAtHl := fun _ => ⟨_, _, rfl, rfl⟩
theorem ldAA : Statement .ldAA := fun _ => ⟨_, _, rfl, rfl⟩
theorem addAB : Statement .addAB := fun _ => ⟨_, _, rfl, rfl⟩
theorem addAC : Statement .addAC := fun _ => ⟨_, _, rfl, rfl⟩
theorem addAD : Statement .addAD := fun _ => ⟨_, _, rfl, rfl⟩
theorem addAE : Statement .addAE := fun _ => ⟨_, _, rfl, rfl⟩
theorem addAH : Statement .addAH := fun _ => ⟨_, _, rfl, rfl⟩
theorem addAL : Statement .addAL := fun _ => ⟨_, _, rfl, rfl⟩
theorem addAAtHl : Statement .addAAtHl := fun _ => ⟨_, _, rfl, rfl⟩
theorem addAA : Statement .addAA := fun _ => ⟨_, _, rfl, rfl⟩
theorem adcAB : Statement .adcAB := fun _ => ⟨_, _, rfl, rfl⟩
theorem adcAC : Statement .adcAC := fun _ => ⟨_, _, rfl, rfl⟩
theorem adcAD : Statement .adcAD := fun _ => ⟨_, _, rfl, rfl⟩
theorem adcAE : Statement .adcAE := fun _ => ⟨_, _, rfl, rfl⟩
theorem adcAH : Statement .adcAH := fun _ => ⟨_, _, rfl, rfl⟩
theorem adcAL : Statement .adcAL := fun _ => ⟨_, _, rfl, rfl⟩
theorem adcAAtHl : Statement .adcAAtHl := fun _ => ⟨_, _, rfl, rfl⟩
theorem adcAA : Statement .adcAA := fun _ => ⟨_, _, rfl, rfl⟩
theorem subB : Statement .subB := fun _ => ⟨_, _, rfl, rfl⟩
theorem subC : Statement .subC := fun _ => ⟨_, _, rfl, rfl⟩
theorem subD : Statement .subD := fun _ => ⟨_, _, rfl, rfl⟩
theorem subE : Statement .subE := fun _ => ⟨_, _, rfl, rfl⟩
theorem subH : Statement .subH := fun _ => ⟨_, _, rfl, rfl⟩
theorem subL : Statement .subL := fun _ => ⟨_, _, rfl, rfl⟩
theorem subAtHl : Statement .subAtHl := fun _ => ⟨_, _, rfl, rfl⟩
theorem subA : Statement .subA := fun _ => ⟨_, _, rfl, rfl⟩
theorem sbcAB : Statement .sbcAB := fun _ => ⟨_, _, rfl, rfl⟩
theorem sbcAC : Statement .sbcAC := fun _ => ⟨_, _, rfl, rfl⟩
theorem sbcAD : Statement .sbcAD := fun _ => ⟨_, _, rfl, rfl⟩
theorem sbcAE : Statement .sbcAE := fun _ => ⟨_, _, rfl, rfl⟩
theorem sbcAH : Statement .sbcAH := fun _ => ⟨_, _, rfl, rfl⟩
theorem sbcAL : Statement .sbcAL := fun _ => ⟨_, _, rfl, rfl⟩
theorem sbcAAtHl : Statement .sbcAAtHl := fun _ => ⟨_, _, rfl, rfl⟩
theorem sbcAA : Statement .sbcAA := fun _ => ⟨_, _, rfl, rfl⟩
theorem andB : Statement .andB := fun _ => ⟨_, _, rfl, rfl⟩
theorem andC : Statement .andC := fun _ => ⟨_, _, rfl, rfl⟩
theorem andD : Statement .andD := fun _ => ⟨_, _, rfl, rfl⟩
theorem andE : Statement .andE := fun _ => ⟨_, _, rfl, rfl⟩
theorem andH : Statement .andH := fun _ => ⟨_, _, rfl, rfl⟩
theorem andL : Statement .andL := fun _ => ⟨_, _, rfl, rfl⟩
theorem andAtHl : Statement .andAtHl := fun _ => ⟨_, _, rfl, rfl⟩
theorem andA : Statement .andA := fun _ => ⟨_, _, rfl, rfl⟩
theorem xorB : Statement .xorB := fun _ => ⟨_, _, rfl, rfl⟩
theorem xorC : Statement .xorC := fun _ => ⟨_, _, rfl, rfl⟩
theorem xorD : Statement .xorD := fun _ => ⟨_, _, rfl, rfl⟩
theorem xorE : Statement .xorE := fun _ => ⟨_, _, rfl, rfl⟩
theorem xorH : Statement .xorH := fun _ => ⟨_, _, rfl, rfl⟩
theorem xorL : Statement .xorL := fun _ => ⟨_, _, rfl, rfl⟩
theorem xorAtHl : Statement .xorAtHl := fun _ => ⟨_, _, rfl, rfl⟩
theorem xorA : Statement .xorA := fun _ => ⟨_, _, rfl, rfl⟩
theorem orB : Statement .orB := fun _ => ⟨_, _, rfl, rfl⟩
theorem orC : Statement .orC := fun _ => ⟨_, _, rfl, rfl⟩
theorem orD : Statement .orD := fun _ => ⟨_, _, rfl, rfl⟩
theorem orE : Statement .orE := fun _ => ⟨_, _, rfl, rfl⟩
theorem orH : Statement .orH := fun _ => ⟨_, _, rfl, rfl⟩
theorem orL : Statement .orL := fun _ => ⟨_, _, rfl, rfl⟩
theorem orAtHl : Statement .orAtHl := fun _ => ⟨_, _, rfl, rfl⟩
theorem orA : Statement .orA := fun _ => ⟨_, _, rfl, rfl⟩
theorem cpB : Statement .cpB := fun _ => ⟨_, _, rfl, rfl⟩
theorem cpC : Statement .cpC := fun _ => ⟨_, _, rfl, rfl⟩
theorem cpD : Statement .cpD := fun _ => ⟨_, _, rfl, rfl⟩
theorem cpE : Statement .cpE := fun _ => ⟨_, _, rfl, rfl⟩
theorem cpH : Statement .cpH := fun _ => ⟨_, _, rfl, rfl⟩
theorem cpL : Statement .cpL := fun _ => ⟨_, _, rfl, rfl⟩
theorem cpAtHl : Statement .cpAtHl := fun _ => ⟨_, _, rfl, rfl⟩
theorem cpA : Statement .cpA := fun _ => ⟨_, _, rfl, rfl⟩
theorem retNz : Statement .retNz := fun _ => ⟨_, _, rfl, rfl⟩
theorem popBc : Statement .popBc := fun _ => ⟨_, _, rfl, rfl⟩
theorem pushBc : Statement .pushBc := fun _ => ⟨_, _, rfl, rfl⟩
theorem rst00 : Statement .rst00 := fun _ => ⟨_, _, rfl, rfl⟩
theorem retZ : Statement .retZ := fun _ => ⟨_, _, rfl, rfl⟩
theorem ret : Statement .ret := fun _ => ⟨_, _, rfl, rfl⟩
theorem rst08 : Statement .rst08 := fun _ => ⟨_, _, rfl, rfl⟩
theorem retNc : Statement .retNc := fun _ => ⟨_, _, rfl, rfl⟩
theorem popDe : Statement .popDe := fun _ => ⟨_, _, rfl, rfl⟩
theorem illegalD3 : Statement .illegalD3 := fun _ => ⟨_, _, rfl, rfl⟩
theorem pushDe : Statement .pushDe := fun _ => ⟨_, _, rfl, rfl⟩
theorem rst10 : Statement .rst10 := fun _ => ⟨_, _, rfl, rfl⟩
theorem retC : Statement .retC := fun _ => ⟨_, _, rfl, rfl⟩
theorem reti : Statement .reti := fun _ => ⟨_, _, rfl, rfl⟩
theorem illegalDB : Statement .illegalDB := fun _ => ⟨_, _, rfl, rfl⟩
theorem illegalDD : Statement .illegalDD := fun _ => ⟨_, _, rfl, rfl⟩
theorem rst18 : Statement .rst18 := fun _ => ⟨_, _, rfl, rfl⟩
theorem popHl : Statement .popHl := fun _ => ⟨_, _, rfl, rfl⟩
theorem ldAtCA : Statement .ldAtCA := fun _ => ⟨_, _, rfl, rfl⟩
theorem illegalE3 : Statement .illegalE3 := fun _ => ⟨_, _, rfl, rfl⟩
theorem illegalE4 : Statement .illegalE4 := fun _ => ⟨_, _, rfl, rfl⟩
theorem pushHl : Statement .pushHl := fun _ => ⟨_, _, rfl, rfl⟩
theorem rst20 : Statement .rst20 := fun _ => ⟨_, _, rfl, rfl⟩
theorem jpHl : Statement .jpHl := fun _ => ⟨_, _, rfl, rfl⟩
theorem illegalEB : Statement .illegalEB := fun _ => ⟨_, _, rfl, rfl⟩
theorem illegalEC : Statement .illegalEC := fun _ => ⟨_, _, rfl, rfl⟩
theorem illegalED : Statement .illegalED := fun _ => ⟨_, _, rfl, rfl⟩
theorem rst28 : Statement .rst28 := fun _ => ⟨_, _, rfl, rfl⟩
theorem popAf : Statement .popAf := fun _ => ⟨_, _, rfl, rfl⟩
theorem ldAAtC : Statement .ldAAtC := fun _ => ⟨_, _, rfl, rfl⟩
theorem di : Statement .di := fun _ => ⟨_, _, rfl, rfl⟩
theorem illegalF4 : Statement .illegalF4 := fun _ => ⟨_, _, rfl, rfl⟩
theorem pushAf : Statement .pushAf := fun _ => ⟨_, _, rfl, rfl⟩
theorem rst30 : Statement .rst30 := fun _ => ⟨_, _, rfl, rfl⟩
theorem ldSpHl : Statement .ldSpHl := fun _ => ⟨_, _, rfl, rfl⟩
theorem ei : Statement .ei := fun _ => ⟨_, _, rfl, rfl⟩
theorem illegalFC : Statement .illegalFC := fun _ => ⟨_, _, rfl, rfl⟩
theorem illegalFD : Statement .illegalFD := fun _ => ⟨_, _, rfl, rfl⟩
theorem rst38 : Statement .rst38 := fun _ => ⟨_, _, rfl, rfl⟩
theorem cbRlcB : Statement .cbRlcB := fun _ => ⟨_, _, rfl, rfl⟩
theorem cbRlcC : Statement .cbRlcC := fun _ => ⟨_, _, rfl, rfl⟩
theorem cbRlcD : Statement .cbRlcD := fun _ => ⟨_, _, rfl, rfl⟩
theorem cbRlcE : Statement .cbRlcE := fun _ => ⟨_, _, rfl, rfl⟩
theorem cbRlcH : Statement .cbRlcH := fun _ => ⟨_, _, rfl, rfl⟩
theorem cbRlcL : Statement .cbRlcL := fun _ => ⟨_, _, rfl, rfl⟩
theorem cbRlcAtHl : Statement .cbRlcAtHl := fun _ => ⟨_, _, rfl, rfl⟩
theorem cbRlcA : Statement .cbRlcA := fun _ => ⟨_, _, rfl, rfl⟩
theorem cbRrcB : Statement .cbRrcB := fun _ => ⟨_, _, rfl, rfl⟩
theorem cbRrcC : Statement .cbRrcC := fun _ => ⟨_, _, rfl, rfl⟩
theorem cbRrcD : Statement .cbRrcD := fun _ => ⟨_, _, rfl, rfl⟩
theorem cbRrcE : Statement .cbRrcE := fun _ => ⟨_, _, rfl, rfl⟩
theorem cbRrcH : Statement .cbRrcH := fun _ => ⟨_, _, rfl, rfl⟩
theorem cbRrcL : Statement .cbRrcL := fun _ => ⟨_, _, rfl, rfl⟩
theorem cbRrcAtHl : Statement .cbRrcAtHl := fun _ => ⟨_, _, rfl, rfl⟩
theorem cbRrcA : Statement .cbRrcA := fun _ => ⟨_, _, rfl, rfl⟩
theorem cbRlB : Statement .cbRlB := fun _ => ⟨_, _, rfl, rfl⟩
theorem cbRlC : Statement .cbRlC := fun _ => ⟨_, _, rfl, rfl⟩
theorem cbRlD : Statement .cbRlD := fun _ => ⟨_, _, rfl, rfl⟩
theorem cbRlE : Statement .cbRlE := fun _ => ⟨_, _, rfl, rfl⟩
theorem cbRlH : Statement .cbRlH := fun _ => ⟨_, _, rfl, rfl⟩
theorem cbRlL : Statement .cbRlL := fun _ => ⟨_, _, rfl, rfl⟩
theorem cbRlAtHl : Statement .cbRlAtHl := fun _ => ⟨_, _, rfl, rfl⟩
theorem cbRlA : Statement .cbRlA := fun _ => ⟨_, _, rfl, rfl⟩
theorem cbRrB : Statement .cbRrB := fun _ => ⟨_, _, rfl, rfl⟩
theorem cbRrC : Statement .cbRrC := fun _ => ⟨_, _, rfl, rfl⟩
theorem cbRrD : Statement .cbRrD := fun _ => ⟨_, _, rfl, rfl⟩
theorem cbRrE : Statement .cbRrE := fun _ => ⟨_, _, rfl, rfl⟩
theorem cbRrH : Statement .cbRrH := fun _ => ⟨_, _, rfl, rfl⟩
theorem cbRrL : Statement .cbRrL := fun _ => ⟨_, _, rfl, rfl⟩
theorem cbRrAtHl : Statement .cbRrAtHl := fun _ => ⟨_, _, rfl, rfl⟩
theorem cbRrA : Statement .cbRrA := fun _ => ⟨_, _, rfl, rfl⟩
theorem cbSlaB : Statement .cbSlaB := fun _ => ⟨_, _, rfl, rfl⟩
theorem cbSlaC : Statement .cbSlaC := fun _ => ⟨_, _, rfl, rfl⟩
theorem cbSlaD : Statement .cbSlaD := fun _ => ⟨_, _, rfl, rfl⟩
theorem cbSlaE : Statement .cbSlaE := fun _ => ⟨_, _, rfl, rfl⟩
theorem cbSlaH : Statement .cbSlaH := fun _ => ⟨_, _, rfl, rfl⟩
theorem cbSlaL : Statement .cbSlaL := fun _ => ⟨_, _, rfl, rfl⟩
theorem cbSlaAtHl : Statement .cbSlaAtHl := fun _ => ⟨_, _, rfl, rfl⟩
theorem cbSlaA : Statement .cbSlaA := fun _ => ⟨_, _, rfl, rfl⟩
theorem cbSraB : Statement .cbSraB := fun _ => ⟨_, _, rfl, rfl⟩
theorem cbSraC : Statement .cbSraC := fun _ => ⟨_, _, rfl, rfl⟩
theorem cbSraD : Statement .cbSraD := fun _ => ⟨_, _, rfl, rfl⟩
theorem cbSraE : Statement .cbSraE := fun _ => ⟨_, _, rfl, rfl⟩
theorem cbSraH : Statement .cbSraH := fun _ => ⟨_, _, rfl, rfl⟩
theorem cbSraL : Statement .cbSraL := fun _ => ⟨_, _, rfl, rfl⟩
theorem cbSraAtHl : Statement .cbSraAtHl := fun _ => ⟨_, _, rfl, rfl⟩
theorem cbSraA : Statement .cbSraA := fun _ => ⟨_, _, rfl, rfl⟩
theorem cbSwapB : Statement .cbSwapB := fun _ => ⟨_, _, rfl, rfl⟩
theorem cbSwapC : Statement .cbSwapC := fun _ => ⟨_, _, rfl, rfl⟩
theorem cbSwapD : Statement .cbSwapD := fun _ => ⟨_, _, rfl, rfl⟩
theorem cbSwapE : Statement .cbSwapE := fun _ => ⟨_, _, rfl, rfl⟩
theorem cbSwapH : Statement .cbSwapH := fun _ => ⟨_, _, rfl, rfl⟩
theorem cbSwapL : Statement .cbSwapL := fun _ => ⟨_, _, rfl, rfl⟩
theorem cbSwapAtHl : Statement .cbSwapAtHl := fun _ => ⟨_, _, rfl, rfl⟩
theorem cbSwapA : Statement .cbSwapA := fun _ => ⟨_, _, rfl, rfl⟩
theorem cbSrlB : Statement .cbSrlB := fun _ => ⟨_, _, rfl, rfl⟩
theorem cbSrlC : Statement .cbSrlC := fun _ => ⟨_, _, rfl, rfl⟩
theorem cbSrlD : Statement .cbSrlD := fun _ => ⟨_, _, rfl, rfl⟩
theorem cbSrlE : Statement .cbSrlE := fun _ => ⟨_, _, rfl, rfl⟩
theorem cbSrlH : Statement .cbSrlH := fun _ => ⟨_, _, rfl, rfl⟩
theorem cbSrlL : Statement .cbSrlL := fun _ => ⟨_, _, rfl, rfl⟩
theorem cbSrlAtHl : Statement .cbSrlAtHl := fun _ => ⟨_, _, rfl, rfl⟩
theorem cbSrlA : Statement .cbSrlA := fun _ => ⟨_, _, rfl, rfl⟩
theorem cbBit0B : Statement .cbBit0B := fun _ => ⟨_, _, rfl, rfl⟩
theorem cbBit0C : Statement .cbBit0C := fun _ => ⟨_, _, rfl, rfl⟩
theorem cbBit0D : Statement .cbBit0D := fun _ => ⟨_, _, rfl, rfl⟩
theorem cbBit0E : Statement .cbBit0E := fun _ => ⟨_, _, rfl, rfl⟩
theorem cbBit0H : Statement .cbBit0H := fun _ => ⟨_, _, rfl, rfl⟩
theorem cbBit0L : Statement .cbBit0L := fun _ => ⟨_, _, rfl, rfl⟩
theorem cbBit0AtHl : Statement .cbBit0AtHl := fun _ => ⟨_, _, rfl, rfl⟩
theorem cbBit0A : Statement .cbBit0A := fun _ => ⟨_, _, rfl, rfl⟩
theorem cbBit1B : Statement .cbBit1B := fun _ => ⟨_, _, rfl, rfl⟩
theorem cbBit1C : Statement .cbBit1C := fun _ => ⟨_, _, rfl, rfl⟩
theorem cbBit1D : Statement .cbBit1D := fun _ => ⟨_, _, rfl, rfl⟩
theorem cbBit1E : Statement .cbBit1E := fun _ => ⟨_, _, rfl, rfl⟩
theorem cbBit1H : Statement .cbBit1H := fun _ => ⟨_, _, rfl, rfl⟩
theorem cbBit1L : Statement .cbBit1L := fun _ => ⟨_, _, rfl, rfl⟩
theorem cbBit1AtHl : Statement .cbBit1AtHl := fun _ => ⟨_, _, rfl, rfl⟩
theorem cbBit1A : Statement .cbBit1A := fun _ => ⟨_, _, rfl, rfl⟩
theorem cbBit2B : Statement .cbBit2B := fun _ => ⟨_, _, rfl, rfl⟩
theorem cbBit2C : Statement .cbBit2C := fun _ => ⟨_, _, rfl, rfl⟩
theorem cbBit2D : Statement .cbBit2D := fun _ => ⟨_, _, rfl, rfl⟩
theorem cbBit2E : Statement .cbBit2E := fun _ => ⟨_, _, rfl, rfl⟩
theorem cbBit2H : Statement .cbBit2H := fun _ => ⟨_, _, rfl, rfl⟩
theorem cbBit2L : Statement .cbBit2L := fun _ => ⟨_, _, rfl, rfl⟩
theorem cbBit2AtHl : Statement .cbBit2AtHl := fun _ => ⟨_, _, rfl, rfl⟩
theorem cbBit2A : Statement .cbBit2A := fun _ => ⟨_, _, rfl, rfl⟩
theorem cbBit3B : Statement .cbBit3B := fun _ => ⟨_, _, rfl, rfl⟩
theorem cbBit3C : Statement .cbBit3C := fun _ => ⟨_, _, rfl, rfl⟩
theorem cbBit3D : Statement .cbBit3D := fun _ => ⟨_, _, rfl, rfl⟩
theorem cbBit3E : Statement .cbBit3E := fun _ => ⟨_, _, rfl, rfl⟩
theorem cbBit3H : Statement .cbBit3H := fun _ => ⟨_, _, rfl, rfl⟩
theorem cbBit3L : Statement .cbBit3L := fun _ => ⟨_, _, rfl, rfl⟩
theorem cbBit3AtHl : Statement .cbBit3AtHl := fun _ => ⟨_, _, rfl, rfl⟩
theorem cbBit3A : Statement .cbBit3A := fun _ => ⟨_, _, rfl, rfl⟩
theorem cbBit4B : Statement .cbBit4B := fun _ => ⟨_, _, rfl, rfl⟩
theorem cbBit4C : Statement .cbBit4C := fun _ => ⟨_, _, rfl, rfl⟩
theorem cbBit4D : Statement .cbBit4D := fun _ => ⟨_, _, rfl, rfl⟩
theorem cbBit4E : Statement .cbBit4E := fun _ => ⟨_, _, rfl, rfl⟩
theorem cbBit4H : Statement .cbBit4H := fun _ => ⟨_, _, rfl, rfl⟩
theorem cbBit4L : Statement .cbBit4L := fun _ => ⟨_, _, rfl, rfl⟩
theorem cbBit4AtHl : Statement .cbBit4AtHl := fun _ => ⟨_, _, rfl, rfl⟩
theorem cbBit4A : Statement .cbBit4A := fun _ => ⟨_, _, rfl, rfl⟩
theorem cbBit5B : Statement .cbBit5B := fun _ => ⟨_, _, rfl, rfl⟩
theorem cbBit5C : Statement .cbBit5C := fun _ => ⟨_, _, rfl, rfl⟩
theorem cbBit5D : Statement .cbBit5D := fun _ => ⟨_, _, rfl, rfl⟩
theorem cbBit5E : Statement .cbBit5E := fun _ => ⟨_, _, rfl, rfl⟩
theorem cbBit5H : Statement .cbBit5H := fun _ => ⟨_, _, rfl, rfl⟩
theorem cbBit5L : Statement .cbBit5L := fun _ => ⟨_, _, rfl, rfl⟩
theorem cbBit5AtHl : Statement .cbBit5AtHl := fun _ => ⟨_, _, rfl, rfl⟩
theorem cbBit5A : Statement .cbBit5A := fun _ => ⟨_, _, rfl, rfl⟩
theorem cbBit6B : Statement .cbBit6B := fun _ => ⟨_, _, rfl, rfl⟩
theorem cbBit6C : Statement .cbBit6C := fun _ => ⟨_, _, rfl, rfl⟩
theorem cbBit6D : Statement .cbBit6D := fun _ => ⟨_, _, rfl, rfl⟩
theorem cbBit6E : Statement .cbBit6E := fun _ => ⟨_, _, rfl, rfl⟩
theorem cbBit6H : Statement .cbBit6H := fun _ => ⟨_, _, rfl, rfl⟩
theorem cbBit6L : Statement .cbBit6L := fun _ => ⟨_, _, rfl, rfl⟩
theorem cbBit6AtHl : Statement .cbBit6AtHl := fun _ => ⟨_, _, rfl, rfl⟩
theorem cbBit6A : Statement .cbBit6A := fun _ => ⟨_, _, rfl, rfl⟩
theorem cbBit7B : Statement .cbBit7B := fun _ => ⟨_, _, rfl, rfl⟩
theorem cbBit7C : Statement .cbBit7C := fun _ => ⟨_, _, rfl, rfl⟩
theorem cbBit7D : Statement .cbBit7D := fun _ => ⟨_, _, rfl, rfl⟩
theorem cbBit7E : Statement .cbBit7E := fun _ => ⟨_, _, rfl, rfl⟩
theorem cbBit7H : Statement .cbBit7H := fun _ => ⟨_, _, rfl, rfl⟩
theorem cbBit7L : Statement .cbBit7L := fun _ => ⟨_, _, rfl, rfl⟩
theorem cbBit7AtHl : Statement .cbBit7AtHl := fun _ => ⟨_, _, rfl, rfl⟩
theorem cbBit7A : Statement .cbBit7A := fun _ => ⟨_, _, rfl, rfl⟩
theorem cbRes0B : Statement .cbRes0B := fun _ => ⟨_, _, rfl, rfl⟩
theorem cbRes0C : Statement .cbRes0C := fun _ => ⟨_, _, rfl, rfl⟩
theorem cbRes0D : Statement .cbRes0D := fun _ => ⟨_, _, rfl, rfl⟩
theorem cbRes0E : Statement .cbRes0E := fun _ => ⟨_, _, rfl, rfl⟩
theorem cbRes0H : Statement .cbRes0H := fun _ => ⟨_, _, rfl, rfl⟩
theorem cbRes0L : Statement .cbRes0L := fun _ => ⟨_, _, rfl, rfl⟩
theorem cbRes0AtHl : Statement .cbRes0AtHl := fun _ => ⟨_, _, rfl, rfl⟩
theorem cbRes0A : Statement .cbRes0A := fun _ => ⟨_, _, rfl, rfl⟩
theorem cbRes1B : Statement .cbRes1B := fun _ => ⟨_, _, rfl, rfl⟩
theorem cbRes1C : Statement .cbRes1C := fun _ => ⟨_, _, rfl, rfl⟩
theorem cbRes1D : Statement .cbRes1D := fun _ => ⟨_, _, rfl, rfl⟩
theorem cbRes1E : Statement .cbRes1E := fun _ => ⟨_, _, rfl, rfl⟩
theorem cbRes1H : Statement .cbRes1H := fun _ => ⟨_, _, rfl, rfl⟩
theorem cbRes1L : Statement .cbRes1L := fun _ => ⟨_, _, rfl, rfl⟩
theorem cbRes1AtHl : Statement .cbRes1AtHl := fun _ => ⟨_, _, rfl, rfl⟩
theorem cbRes1A : Statement .cbRes1A := fun _ => ⟨_, _, rfl, rfl⟩
theorem cbRes2B : Statement .cbRes2B := fun _ => ⟨_, _, rfl, rfl⟩
theorem cbRes2C : Statement .cbRes2C := fun _ => ⟨_, _, rfl, rfl⟩
theorem cbRes2D : Statement .cbRes2D := fun _ => ⟨_, _, rfl, rfl⟩
theorem cbRes2E : Statement .cbRes2E := fun _ => ⟨_, _, rfl, rfl⟩
theorem cbRes2H : Statement .cbRes2H := fun _ => ⟨_, _, rfl, rfl⟩
theorem cbRes2L : Statement .cbRes2L := fun _ => ⟨_, _, rfl, rfl⟩
theorem cbRes2AtHl : Statement .cbRes2AtHl := fun _ => ⟨_, _, rfl, rfl⟩
theorem cbRes2A : Statement .cbRes2A := fun _ => ⟨_, _, rfl, rfl⟩
theorem cbRes3B : Statement .cbRes3B := fun _ => ⟨_, _, rfl, rfl⟩
theorem cbRes3C : Statement .cbRes3C := fun _ => ⟨_, _, rfl, rfl⟩
theorem cbRes3D : Statement .cbRes3D := fun _ => ⟨_, _, rfl, rfl⟩
theorem cbRes3E : Statement .cbRes3E := fun _ => ⟨_, _, rfl, rfl⟩
theorem cbRes3H : Statement .cbRes3H := fun _ => ⟨_, _, rfl, rfl⟩
theorem cbRes3L : Statement .cbRes3L := fun _ => ⟨_, _, rfl, rfl⟩
theorem cbRes3AtHl : Statement .cbRes3AtHl := fun _ => ⟨_, _, rfl, rfl⟩
theorem cbRes3A : Statement .cbRes3A := fun _ => ⟨_, _, rfl, rfl⟩
theorem cbRes4B : Statement .cbRes4B := fun _ => ⟨_, _, rfl, rfl⟩
theorem cbRes4C : Statement .cbRes4C := fun _ => ⟨_, _, rfl, rfl⟩
theorem cbRes4D : Statement .cbRes4D := fun _ => ⟨_, _, rfl, rfl⟩
theorem cbRes4E : Statement .cbRes4E := fun _ => ⟨_, _, rfl, rfl⟩
theorem cbRes4H : Statement .cbRes4H := fun _ => ⟨_, _, rfl, rfl⟩
theorem cbRes4L : Statement .cbRes4L := fun _ => ⟨_, _, rfl, rfl⟩
theorem cbRes4AtHl : Statement .cbRes4AtHl := fun _ => ⟨_, _, rfl, rfl⟩
theorem cbRes4A : Statement .cbRes4A := fun _ => ⟨_, _, rfl, rfl⟩
theorem cbRes5B : Statement .cbRes5B := fun _ => ⟨_, _, rfl, rfl⟩
theorem cbRes5C : Statement .cbRes5C := fun _ => ⟨_, _, rfl, rfl⟩
theorem cbRes5D : Statement .cbRes5D := fun _ => ⟨_, _, rfl, rfl⟩
theorem cbRes5E : Statement .cbRes5E := fun _ => ⟨_, _, rfl, rfl⟩
theorem cbRes5H : Statement .cbRes5H := fun _ => ⟨_, _, rfl, rfl⟩
theorem cbRes5L : Statement .cbRes5L := fun _ => ⟨_, _, rfl, rfl⟩
theorem cbRes5AtHl : Statement .cbRes5AtHl := fun _ => ⟨_, _, rfl, rfl⟩
theorem cbRes5A : Statement .cbRes5A := fun _ => ⟨_, _, rfl, rfl⟩
theorem cbRes6B : Statement .cbRes6B := fun _ => ⟨_, _, rfl, rfl⟩
theorem cbRes6C : Statement .cbRes6C := fun _ => ⟨_, _, rfl, rfl⟩
theorem cbRes6D : Statement .cbRes6D := fun _ => ⟨_, _, rfl, rfl⟩
theorem cbRes6E : Statement .cbRes6E := fun _ => ⟨_, _, rfl, rfl⟩
theorem cbRes6H : Statement .cbRes6H := fun _ => ⟨_, _, rfl, rfl⟩
theorem cbRes6L : Statement .cbRes6L := fun _ => ⟨_, _, rfl, rfl⟩
theorem cbRes6AtHl : Statement .cbRes6AtHl := fun _ => ⟨_, _, rfl, rfl⟩
theorem cbRes6A : Statement .cbRes6A := fun _ => ⟨_, _, rfl, rfl⟩
theorem cbRes7B : Statement .cbRes7B := fun _ => ⟨_, _, rfl, rfl⟩
theorem cbRes7C : Statement .cbRes7C := fun _ => ⟨_, _, rfl, rfl⟩
theorem cbRes7D : Statement .cbRes7D := fun _ => ⟨_, _, rfl, rfl⟩
theorem cbRes7E : Statement .cbRes7E := fun _ => ⟨_, _, rfl, rfl⟩
theorem cbRes7H : Statement .cbRes7H := fun _ => ⟨_, _, rfl, rfl⟩
theorem cbRes7L : Statement .cbRes7L := fun _ => ⟨_, _, rfl, rfl⟩
theorem cbRes7AtHl : Statement .cbRes7AtHl := fun _ => ⟨_, _, rfl, rfl⟩
theorem cbRes7A : Statement .cbRes7A := fun _ => ⟨_, _, rfl, rfl⟩
theorem cbSet0B : Statement .cbSet0B := fun _ => ⟨_, _, rfl, rfl⟩
theorem cbSet0C : Statement .cbSet0C := fun _ => ⟨_, _, rfl, rfl⟩
theorem cbSet0D : Statement .cbSet0D := fun _ => ⟨_, _, rfl, rfl⟩
theorem cbSet0E : Statement .cbSet0E := fun _ => ⟨_, _, rfl, rfl⟩
theorem cbSet0H : Statement .cbSet0H := fun _ => ⟨_, _, rfl, rfl⟩
theorem cbSet0L : Statement .cbSet0L := fun _ => ⟨_, _, rfl, rfl⟩
theorem cbSet0AtHl : Statement .cbSet0AtHl := fun _ => ⟨_, _, rfl, rfl⟩
theorem cbSet0A : Statement .cbSet0A := fun _ => ⟨_, _, rfl, rfl⟩
theorem cbSet1B : Statement .cbSet1B := fun _ => ⟨_, _, rfl, rfl⟩
theorem cbSet1C : Statement .cbSet1C := fun _ => ⟨_, _, rfl, rfl⟩
theorem cbSet1D : Statement .cbSet1D := fun _ => ⟨_, _, rfl, rfl⟩
theorem cbSet1E : Statement .cbSet1E := fun _ => ⟨_, _, rfl, rfl⟩
theorem cbSet1H : Statement .cbSet1H := fun _ => ⟨_, _, rfl, rfl⟩
theorem cbSet1L : Statement .cbSet1L := fun _ => ⟨_, _, rfl, rfl⟩
theorem cbSet1AtHl : Statement .cbSet1AtHl := fun _ => ⟨_, _, rfl, rfl⟩
theorem cbSet1A : Statement .cbSet1A := fun _ => ⟨_, _, rfl, rfl⟩
theorem cbSet2B : Statement .cbSet2B := fun _ => ⟨_, _, rfl, rfl⟩
theorem cbSet2C : Statement .cbSet2C := fun _ => ⟨_, _, rfl, rfl⟩
theorem cbSet2D : Statement .cbSet2D := fun _ => ⟨_, _, rfl, rfl⟩
theorem cbSet2E : Statement .cbSet2E := fun _ => ⟨_, _, rfl, rfl⟩
theorem cbSet2H : Statement .cbSet2H := fun _ => ⟨_, _, rfl, rfl⟩
theorem cbSet2L : Statement .cbSet2L := fun _ => ⟨_, _, rfl, rfl⟩
theorem cbSet2AtHl : Statement .cbSet2AtHl := fun _ => ⟨_, _, rfl, rfl⟩
theorem cbSet2A : Statement .cbSet2A := fun _ => ⟨_, _, rfl, rfl⟩
theorem cbSet3B : Statement .cbSet3B := fun _ => ⟨_, _, rfl, rfl⟩
theorem cbSet3C : Statement .cbSet3C := fun _ => ⟨_, _, rfl, rfl⟩
theorem cbSet3D : Statement .cbSet3D := fun _ => ⟨_, _, rfl, rfl⟩
theorem cbSet3E : Statement .cbSet3E := fun _ => ⟨_, _, rfl, rfl⟩
theorem cbSet3H : Statement .cbSet3H := fun _ => ⟨_, _, rfl, rfl⟩
theorem cbSet3L : Statement .cbSet3L := fun _ => ⟨_, _, rfl, rfl⟩
theorem cbSet3AtHl : Statement .cbSet3AtHl := fun _ => ⟨_, _, rfl, rfl⟩
theorem cbSet3A : Statement .cbSet3A := fun _ => ⟨_, _, rfl, rfl⟩
theorem cbSet4B : Statement .cbSet4B := fun _ => ⟨_, _, rfl, rfl⟩
theorem cbSet4C : Statement .cbSet4C := fun _ => ⟨_, _, rfl, rfl⟩
theorem cbSet4D : Statement .cbSet4D := fun _ => ⟨_, _, rfl, rfl⟩
theorem cbSet4E : Statement .cbSet4E := fun _ => ⟨_, _, rfl, rfl⟩
theorem cbSet4H : Statement .cbSet4H := fun _ => ⟨_, _, rfl, rfl⟩
theorem cbSet4L : Statement .cbSet4L := fun _ => ⟨_, _, rfl, rfl⟩
theorem cbSet4AtHl : Statement .cbSet4AtHl := fun _ => ⟨_, _, rfl, rfl⟩
theorem cbSet4A : Statement .cbSet4A := fun _ => ⟨_, _, rfl, rfl⟩
theorem cbSet5B : Statement .cbSet5B := fun _ => ⟨_, _, rfl, rfl⟩
theorem cbSet5C : Statement .cbSet5C := fun _ => ⟨_, _, rfl, rfl⟩
theorem cbSet5D : Statement .cbSet5D := fun _ => ⟨_, _, rfl, rfl⟩
theorem cbSet5E : Statement .cbSet5E := fun _ => ⟨_, _, rfl, rfl⟩
theorem cbSet5H : Statement .cbSet5H := fun _ => ⟨_, _, rfl, rfl⟩
theorem cbSet5L : Statement .cbSet5L := fun _ => ⟨_, _, rfl, rfl⟩
theorem cbSet5AtHl : Statement .cbSet5AtHl := fun _ => ⟨_, _, rfl, rfl⟩
theorem cbSet5A : Statement .cbSet5A := fun _ => ⟨_, _, rfl, rfl⟩
theorem cbSet6B : Statement .cbSet6B := fun _ => ⟨_, _, rfl, rfl⟩
theorem cbSet6C : Statement .cbSet6C := fun _ => ⟨_, _, rfl, rfl⟩
theorem cbSet6D : Statement .cbSet6D := fun _ => ⟨_, _, rfl, rfl⟩
theorem cbSet6E : Statement .cbSet6E := fun _ => ⟨_, _, rfl, rfl⟩
theorem cbSet6H : Statement .cbSet6H := fun _ => ⟨_, _, rfl, rfl⟩
theorem cbSet6L : Statement .cbSet6L := fun _ => ⟨_, _, rfl, rfl⟩
theorem cbSet6AtHl : Statement .cbSet6AtHl := fun _ => ⟨_, _, rfl, rfl⟩
theorem cbSet6A : Statement .cbSet6A := fun _ => ⟨_, _, rfl, rfl⟩
theorem cbSet7B : Statement .cbSet7B := fun _ => ⟨_, _, rfl, rfl⟩
theorem cbSet7C : Statement .cbSet7C := fun _ => ⟨_, _, rfl, rfl⟩
theorem cbSet7D : Statement .cbSet7D := fun _ => ⟨_, _, rfl, rfl⟩
theorem cbSet7E : Statement .cbSet7E := fun _ => ⟨_, _, rfl, rfl⟩
theorem cbSet7H : Statement .cbSet7H := fun _ => ⟨_, _, rfl, rfl⟩
theorem cbSet7L : Statement .cbSet7L := fun _ => ⟨_, _, rfl, rfl⟩
theorem cbSet7AtHl : Statement .cbSet7AtHl := fun _ => ⟨_, _, rfl, rfl⟩
theorem cbSet7A : Statement .cbSet7A := fun _ => ⟨_, _, rfl, rfl⟩

end Sys2Proof.Laws.EncodeLength
end

