-- ==== Sys2Proof/Laws/Step.lean ====
section
/-! SUPPORT. What a step can do: a tick, a dispatcher move or a reset. -/

namespace Sys2Proof.Machine

theorem step_of_coreTurn {s0 s : State} (h : s0.coreTurn = some s) : step s0 = tick Config.stopLength s := by
  obtain ⟨_, _, _, _, _, _, _, _, _, _, _, _, _, _, events⟩ := s0
  rcases events with _ | ⟨_ | m, rest⟩ <;> cases h <;> rfl

theorem step_of_dispatcher {s : State} {m : DispatcherMove} {rest : List OutsideEvent}
    (h : s.events = .dispatcher m :: rest) : step s = .next (State.dispatcherMove { s with events := rest } m) := by
  simp only [step, h]

/-- Every step is a tick of the core, or takes the dispatcher move or the reset that is next among the events. -/
theorem step_cases (s0 : State) :
    (∃ s, s0.coreTurn = some s ∧ step s0 = tick Config.stopLength s) ∨
    (∃ m rest, s0.events = .dispatcher m :: rest ∧
      step s0 = .next (State.dispatcherMove { s0 with events := rest } m)) ∨
    (∃ rest, s0.events = .reset :: rest ∧
      step s0 = .next (State.hostReset Config.resetProfile { s0 with events := rest })) := by
  rcases h : s0.events with _ | ⟨_ | m, rest⟩
  · have hc : s0.coreTurn = some s0 := by simp only [State.coreTurn, h]
    exact .inl ⟨_, hc, step_of_coreTurn hc⟩
  · have hc : s0.coreTurn = some { s0 with events := rest } := by simp only [State.coreTurn, h]
    exact .inl ⟨_, hc, step_of_coreTurn hc⟩
  · exact .inr (.inl ⟨m, rest, rfl, step_of_dispatcher h⟩)
  · exact .inr (.inr ⟨rest, rfl, by simp only [step, h]⟩)

end Sys2Proof.Machine
end

