-- ==== Sys2Proof/Machine/Timing.lean ====
section
/-! DEFINITION. The static per-opcode cycle table (R108, R1310). It is a constant that a caller may consult; no step reads
it and no rule of the core depends on it. Its values are the spec's general knowledge, informative only (log entry 8). -/

namespace Sys2Proof.Machine

/-- R1310: the clock cycles of an instruction, taken and not taken; the two are equal for an instruction without a
condition, and an illegal opcode has no figure. -/
def cycles (i : Instr) : Option (Nat × Nat) :=
  match i with
  | .nop | .incB | .decB | .rlca | .incC | .decC | .rrca | .stop _ | .incD | .decD | .rla | .incE | .decE | .rra
  | .incH | .decH | .daa | .incL | .decL | .cpl | .scf | .incA | .decA | .ccf | .ldBB | .ldBC | .ldBD | .ldBE
  | .ldBH | .ldBL | .ldBA | .ldCB | .ldCC | .ldCD | .ldCE | .ldCH | .ldCL | .ldCA | .ldDB | .ldDC | .ldDD | .ldDE
  | .ldDH | .ldDL | .ldDA | .ldEB | .ldEC | .ldED | .ldEE | .ldEH | .ldEL | .ldEA | .ldHB | .ldHC | .ldHD | .ldHE
  | .ldHH | .ldHL | .ldHA | .ldLB | .ldLC | .ldLD | .ldLE | .ldLH | .ldLL | .ldLA | .halt | .ldAB | .ldAC | .ldAD
  | .ldAE | .ldAH | .ldAL | .ldAA | .addAB | .addAC | .addAD | .addAE | .addAH | .addAL | .addAA | .adcAB | .adcAC
  | .adcAD | .adcAE | .adcAH | .adcAL | .adcAA | .subB | .subC | .subD | .subE | .subH | .subL | .subA | .sbcAB
  | .sbcAC | .sbcAD | .sbcAE | .sbcAH | .sbcAL | .sbcAA | .andB | .andC | .andD | .andE | .andH | .andL | .andA
  | .xorB | .xorC | .xorD | .xorE | .xorH | .xorL | .xorA | .orB | .orC | .orD | .orE | .orH | .orL | .orA | .cpB
  | .cpC | .cpD | .cpE | .cpH | .cpL | .cpA | .jpHl | .di | .ei =>
    some (4, 4)
  | .ldBcN16 _ | .ldDeN16 _ | .jrE8 _ | .ldHlN16 _ | .ldSpN16 _ | .incAtHl | .decAtHl | .ldAtHlN8 _ | .popBc
  | .popDe | .ldhAtN8A _ | .popHl | .ldhAAtN8 _ | .popAf | .ldHlSpE8 _ | .cbBit0AtHl | .cbBit1AtHl | .cbBit2AtHl
  | .cbBit3AtHl | .cbBit4AtHl | .cbBit5AtHl | .cbBit6AtHl | .cbBit7AtHl =>
    some (12, 12)
  | .ldAtBcA | .incBc | .ldBN8 _ | .addHlBc | .ldAAtBc | .decBc | .ldCN8 _ | .ldAtDeA | .incDe | .ldDN8 _
  | .addHlDe | .ldAAtDe | .decDe | .ldEN8 _ | .ldAtHlIncA | .incHl | .ldHN8 _ | .addHlHl | .ldAAtHlInc | .decHl
  | .ldLN8 _ | .ldAtHlDecA | .incSp | .addHlSp | .ldAAtHlDec | .decSp | .ldAN8 _ | .ldBAtHl | .ldCAtHl | .ldDAtHl
  | .ldEAtHl | .ldHAtHl | .ldLAtHl | .ldAtHlB | .ldAtHlC | .ldAtHlD | .ldAtHlE | .ldAtHlH | .ldAtHlL | .ldAtHlA
  | .ldAAtHl | .addAAtHl | .adcAAtHl | .subAtHl | .sbcAAtHl | .andAtHl | .xorAtHl | .orAtHl | .cpAtHl | .addAN8 _
  | .adcAN8 _ | .subN8 _ | .sbcAN8 _ | .ldAtCA | .andN8 _ | .xorN8 _ | .ldAAtC | .orN8 _ | .ldSpHl | .cpN8 _
  | .cbRlcB | .cbRlcC | .cbRlcD | .cbRlcE | .cbRlcH | .cbRlcL | .cbRlcA | .cbRrcB | .cbRrcC | .cbRrcD | .cbRrcE
  | .cbRrcH | .cbRrcL | .cbRrcA | .cbRlB | .cbRlC | .cbRlD | .cbRlE | .cbRlH | .cbRlL | .cbRlA | .cbRrB | .cbRrC
  | .cbRrD | .cbRrE | .cbRrH | .cbRrL | .cbRrA | .cbSlaB | .cbSlaC | .cbSlaD | .cbSlaE | .cbSlaH | .cbSlaL
  | .cbSlaA | .cbSraB | .cbSraC | .cbSraD | .cbSraE | .cbSraH | .cbSraL | .cbSraA | .cbSwapB | .cbSwapC | .cbSwapD
  | .cbSwapE | .cbSwapH | .cbSwapL | .cbSwapA | .cbSrlB | .cbSrlC | .cbSrlD | .cbSrlE | .cbSrlH | .cbSrlL
  | .cbSrlA | .cbBit0B | .cbBit0C | .cbBit0D | .cbBit0E | .cbBit0H | .cbBit0L | .cbBit0A | .cbBit1B | .cbBit1C
  | .cbBit1D | .cbBit1E | .cbBit1H | .cbBit1L | .cbBit1A | .cbBit2B | .cbBit2C | .cbBit2D | .cbBit2E | .cbBit2H
  | .cbBit2L | .cbBit2A | .cbBit3B | .cbBit3C | .cbBit3D | .cbBit3E | .cbBit3H | .cbBit3L | .cbBit3A | .cbBit4B
  | .cbBit4C | .cbBit4D | .cbBit4E | .cbBit4H | .cbBit4L | .cbBit4A | .cbBit5B | .cbBit5C | .cbBit5D | .cbBit5E
  | .cbBit5H | .cbBit5L | .cbBit5A | .cbBit6B | .cbBit6C | .cbBit6D | .cbBit6E | .cbBit6H | .cbBit6L | .cbBit6A
  | .cbBit7B | .cbBit7C | .cbBit7D | .cbBit7E | .cbBit7H | .cbBit7L | .cbBit7A | .cbRes0B | .cbRes0C | .cbRes0D
  | .cbRes0E | .cbRes0H | .cbRes0L | .cbRes0A | .cbRes1B | .cbRes1C | .cbRes1D | .cbRes1E | .cbRes1H | .cbRes1L
  | .cbRes1A | .cbRes2B | .cbRes2C | .cbRes2D | .cbRes2E | .cbRes2H | .cbRes2L | .cbRes2A | .cbRes3B | .cbRes3C
  | .cbRes3D | .cbRes3E | .cbRes3H | .cbRes3L | .cbRes3A | .cbRes4B | .cbRes4C | .cbRes4D | .cbRes4E | .cbRes4H
  | .cbRes4L | .cbRes4A | .cbRes5B | .cbRes5C | .cbRes5D | .cbRes5E | .cbRes5H | .cbRes5L | .cbRes5A | .cbRes6B
  | .cbRes6C | .cbRes6D | .cbRes6E | .cbRes6H | .cbRes6L | .cbRes6A | .cbRes7B | .cbRes7C | .cbRes7D | .cbRes7E
  | .cbRes7H | .cbRes7L | .cbRes7A | .cbSet0B | .cbSet0C | .cbSet0D | .cbSet0E | .cbSet0H | .cbSet0L | .cbSet0A
  | .cbSet1B | .cbSet1C | .cbSet1D | .cbSet1E | .cbSet1H | .cbSet1L | .cbSet1A | .cbSet2B | .cbSet2C | .cbSet2D
  | .cbSet2E | .cbSet2H | .cbSet2L | .cbSet2A | .cbSet3B | .cbSet3C | .cbSet3D | .cbSet3E | .cbSet3H | .cbSet3L
  | .cbSet3A | .cbSet4B | .cbSet4C | .cbSet4D | .cbSet4E | .cbSet4H | .cbSet4L | .cbSet4A | .cbSet5B | .cbSet5C
  | .cbSet5D | .cbSet5E | .cbSet5H | .cbSet5L | .cbSet5A | .cbSet6B | .cbSet6C | .cbSet6D | .cbSet6E | .cbSet6H
  | .cbSet6L | .cbSet6A | .cbSet7B | .cbSet7C | .cbSet7D | .cbSet7E | .cbSet7H | .cbSet7L | .cbSet7A =>
    some (8, 8)
  | .ldAtN16Sp _ =>
    some (20, 20)
  | .jrNzE8 _ | .jrZE8 _ | .jrNcE8 _ | .jrCE8 _ =>
    some (12, 8)
  | .retNz | .retZ | .retNc | .retC =>
    some (20, 8)
  | .jpNzN16 _ | .jpZN16 _ | .jpNcN16 _ | .jpCN16 _ =>
    some (16, 12)
  | .jpN16 _ | .pushBc | .rst00 | .ret | .rst08 | .pushDe | .rst10 | .reti | .rst18 | .pushHl | .rst20
  | .addSpE8 _ | .ldAtN16A _ | .rst28 | .pushAf | .rst30 | .ldAAtN16 _ | .rst38 | .cbRlcAtHl | .cbRrcAtHl
  | .cbRlAtHl | .cbRrAtHl | .cbSlaAtHl | .cbSraAtHl | .cbSwapAtHl | .cbSrlAtHl | .cbRes0AtHl | .cbRes1AtHl
  | .cbRes2AtHl | .cbRes3AtHl | .cbRes4AtHl | .cbRes5AtHl | .cbRes6AtHl | .cbRes7AtHl | .cbSet0AtHl | .cbSet1AtHl
  | .cbSet2AtHl | .cbSet3AtHl | .cbSet4AtHl | .cbSet5AtHl | .cbSet6AtHl | .cbSet7AtHl =>
    some (16, 16)
  | .callNzN16 _ | .callZN16 _ | .callNcN16 _ | .callCN16 _ =>
    some (24, 12)
  | .callN16 _ =>
    some (24, 24)
  | .illegalD3 | .illegalDB | .illegalDD | .illegalE3 | .illegalE4 | .illegalEB | .illegalEC | .illegalED
  | .illegalF4 | .illegalFC | .illegalFD =>
    none

end Sys2Proof.Machine
end

