-- ==== Sys2Proof/Tests/Slice0.lean ====
section
/-! SUPPORT. The model's own tests: the refusals, decodings of words written out from the spec, one step on small states
with results taken from the examples of the rules and from `95_test_vectors.md`, and a witness for the hypotheses of each
statement. -/

namespace Sys2Proof.Tests

open Sys2Proof.Machine

/-! ### Helpers -/

/-- The default start state of `95_test_vectors.md`: all zero but SP = 0xFFFE and PC = 0x0100. -/
def base : State := { State.resetOf .zero with sp := 0xFFFE#16, pc := 0x0100#16 }

/-- A state with one RAM byte set. -/
def State.poked (s : State) (addr : Word) (v : Byte) : State :=
  { s with bus := { s.bus with mem := Memory.poke s.bus.mem addr.toNat v } }

/-- What holds after one step of the instruction with these bytes, placed at PC. -/
def after (bytes : List Byte) (s : State) (p : State → Bool) : Bool :=
  match step (s.placeInstr bytes) with
  | .next t => p t
  | .fault _ => false
  | .refused _ => false

/-- The flags Z, N, H, C. -/
def flags (z n h c : Bool) : Flags := { z := z, n := n, h := h, c := c }

/-! ### Well-formedness, decoding, refusal -/

/-- STOP of one byte has no ignored byte, so a term that carries one is ill formed; all other terms are well formed. -/
theorem test_wellFormed_refuses : Instr.wellFormed .one (.stop 0x01#8) = false := by decide
theorem test_wellFormed_two : Instr.wellFormed .two (.stop 0xCB#8) = true := by decide
theorem test_wellFormed_one : Instr.wellFormed .one (.stop 0x00#8) = true := by decide

/-- R105, R300: both booleans set is refused by name. -/
theorem test_step_refused : step { base with halted := true, stopped := true } = .refused .haltedAndStopped := rfl

/-- R308: a list that ends too soon is rejected by name. -/
theorem test_decode_empty : decode .two [] = .error .noOpcode := rfl
theorem test_decode_truncated : decode .two [0xCD#8, 0x34#8] = .error .truncated := rfl

/-- R403: `00 yyy 110` with y = 111 (A), then n8. -/
theorem test_decode_loads8 : decode .two [0b00111110#8, 0x05#8] = .ok (.ldAN8 0x05#8, []) := rfl
/-- R401: `01 yyy 110` with y = 100 (H). -/
theorem test_decode_load_atHl : decode .two [0b01100110#8] = .ok (.ldHAtHl, []) := rfl
/-- R503: 0x08, n16 low, n16 high. -/
theorem test_decode_loads16 : decode .two [0x08#8, 0x00#8, 0xC1#8] = .ok (.ldAtN16Sp 0xC100#16, []) := rfl
/-- R505: `11 qq 0101` with q = 01 (DE). -/
theorem test_decode_push : decode .two [0b11010101#8] = .ok (.pushDe, []) := rfl
/-- R608: `10 011 zzz` with z = 100 (H). -/
theorem test_decode_alu8 : decode .two [0b10011100#8] = .ok (.sbcAH, []) := rfl
/-- R704: 0x27. -/
theorem test_decode_accumulator : decode .two [0x27#8] = .ok (.daa, []) := rfl
/-- R801: `00 pp 1001` with p = 11 (SP). -/
theorem test_decode_alu16 : decode .two [0b00111001#8] = .ok (.addHlSp, []) := rfl
/-- R902: 0x10 and one ignored byte of any value; with `STOP_LENGTH` 1 the byte belongs to the next instruction. -/
theorem test_decode_stop_two : decode .two [0x10#8, 0xCB#8] = .ok (.stop 0xCB#8, []) := rfl
theorem test_decode_stop_one : decode .one [0x10#8, 0xCB#8] = .ok (.stop 0x00#8, [0xCB#8]) := rfl
/-- R1011: CB `11 bbb zzz` with b = 011, z = 110 ((HL)). -/
theorem test_decode_cb : decode .two [0xCB#8, 0b11011110#8] = .ok (.cbSet3AtHl, []) := rfl
/-- R1105: `001 cc 000` with c = 10 (NC). -/
theorem test_decode_control : decode .two [0b00110000#8, 0x05#8] = .ok (.jrNcE8 0x05#8, []) := rfl
/-- R320: 0xFD is illegal, one byte. -/
theorem test_decode_illegal : decode .two [0xFD#8, 0x34#8] = .ok (.illegalFD, [0x34#8]) := rfl

/-- The opcode table numbers a CB row with its prefix in the higher byte (log entry 6). -/
theorem test_decodeTableWord_cb : decodeTableWord 16 0xCB65 = some .cbBit4L := rfl
theorem test_decodeTableWord_n16 : decodeTableWord 24 0x1234CD = some (.callN16 0x1234#16) := rfl

/-- The host's first step after reset runs the word it places. -/
theorem test_withFetchWord :
    (match step (State.reset.withFetchWord 8 0x76) with | .next t => t.halted | _ => false) = true := by decide

/-! ### One step of each family; the results are the examples of the rules -/

/-- R401. -/
theorem test_ld_h_atHl : after [0x66#8] (State.poked { base with h := 0xC0#8 } 0xC000#16 0x5A#8)
    (fun t => t.h == 0x5A#8 && t.hl == 0x5A00#16 && t.pc == 0x0101#16) = true := by decide
/-- R402. -/
theorem test_ld_atHl_h : after [0x74#8] { base with h := 0xC1#8, l := 0x23#8 }
    (fun t => t.peek 0xC123#16 == 0xC1#8) = true := by decide
/-- R403 (95 W1). -/
theorem test_ld_a_n8 : after [0x3E#8, 0x05#8] base (fun t => t.a == 0x05#8 && t.pc == 0x0102#16) = true := by decide
/-- R407. -/
theorem test_ld_atHlInc_a : after [0x22#8] { base with h := 0xC0#8, l := 0xFF#8, a := 0x77#8 }
    (fun t => t.peek 0xC0FF#16 == 0x77#8 && t.hl == 0xC100#16) = true := by decide
/-- R408: HL = 0x0000 wraps to 0xFFFF. -/
theorem test_ld_atHlDec_a_wrap : after [0x32#8] base (fun t => t.hl == 0xFFFF#16) = true := by decide
/-- R413. -/
theorem test_ld_atN16_a : after [0xEA#8, 0x00#8, 0xC0#8] { base with a := 0x42#8 }
    (fun t => t.peek 0xC000#16 == 0x42#8 && t.pc == 0x0103#16) = true := by decide
/-- R416. -/
theorem test_ldh_a_atN8 : after [0xF0#8, 0x44#8] (State.poked base 0xFF44#16 0x90#8)
    (fun t => t.a == 0x90#8) = true := by decide
/-- R417. -/
theorem test_ld_atC_a : after [0xE2#8] { base with c := 0x10#8, a := 0x80#8 }
    (fun t => t.peek 0xFF10#16 == 0x80#8) = true := by decide
/-- R502. -/
theorem test_ld_hl_n16 : after [0x21#8, 0x34#8, 0x12#8] base
    (fun t => t.h == 0x12#8 && t.l == 0x34#8 && t.pc == 0x0103#16) = true := by decide
/-- R503: n16 = 0xFFFF puts the high byte at 0x0000. -/
theorem test_ld_atN16_sp_wrap : after [0x08#8, 0xFF#8, 0xFF#8] { base with sp := 0xABCD#16 }
    (fun t => t.peek 0xFFFF#16 == 0xCD#8 && t.peek 0x0000#16 == 0xAB#8) = true := by decide
/-- R505. -/
theorem test_push_bc : after [0xC5#8] { base with b := 0x12#8, c := 0x34#8 }
    (fun t => t.peek 0xFFFC#16 == 0x34#8 && t.peek 0xFFFD#16 == 0x12#8 && t.sp == 0xFFFC#16) = true := by decide
/-- R506. -/
theorem test_push_af : after [0xF5#8] { base with a := 0x01#8, f := flags true false true true }
    (fun t => t.peek 0xFFFC#16 == 0xB0#8 && t.peek 0xFFFD#16 == 0x01#8) = true := by decide
/-- R508: the popped low byte 0x0F gives F = 0x00. -/
theorem test_pop_af : after [0xF1#8]
    (State.poked (State.poked { base with sp := 0xC000#16, f := flags true true true true } 0xC000#16 0x0F#8)
      0xC001#16 0x12#8)
    (fun t => t.a == 0x12#8 && t.f == flags false false false false && t.sp == 0xC002#16) = true := by decide
/-- R602. -/
theorem test_add_a_b : after [0x80#8] { base with a := 0x3A#8, b := 0xC6#8 }
    (fun t => t.a == 0x00#8 && t.f == flags true false true true) = true := by decide
/-- R604. -/
theorem test_adc_a_e : after [0x8B#8] { base with a := 0xE1#8, e := 0x0F#8, f := flags false false false true }
    (fun t => t.a == 0xF1#8 && t.f == flags false false true false) = true := by decide
/-- R607. -/
theorem test_sub_n8 : after [0xD6#8, 0x0F#8] { base with a := 0x3E#8 }
    (fun t => t.a == 0x2F#8 && t.f == flags false true true false) = true := by decide
/-- R608: SBC A,A with C set. -/
theorem test_sbc_a_a : after [0x9F#8] { base with a := 0x3B#8, f := flags false false false true }
    (fun t => t.a == 0xFF#8 && t.f == flags false true true true) = true := by decide
/-- R609. -/
theorem test_sbc_a_n8 : after [0xDE#8, 0x4F#8] { base with a := 0x3B#8, f := flags false false false true }
    (fun t => t.a == 0xEB#8 && t.f == flags false true true true) = true := by decide
/-- R617. -/
theorem test_cp_n8 : after [0xFE#8, 0x40#8] { base with a := 0x3C#8 }
    (fun t => t.a == 0x3C#8 && t.f == flags false true false true) = true := by decide
/-- R610. -/
theorem test_and_l : after [0xA5#8] { base with a := 0x5A#8, l := 0x3F#8 }
    (fun t => t.a == 0x1A#8 && t.f == flags false false true false) = true := by decide
/-- R612. -/
theorem test_xor_a : after [0xAF#8] { base with a := 0xFF#8, f := flags false true true true }
    (fun t => t.a == 0x00#8 && t.f == flags true false false false) = true := by decide
/-- R615. -/
theorem test_or_n8 : after [0xF6#8, 0x03#8] { base with a := 0x5A#8 } (fun t => t.a == 0x5B#8) = true := by decide
/-- R618: v = 0xFF gives 0x00 with Z and H, C unchanged. -/
theorem test_inc_atHl : after [0x34#8]
    (State.poked { base with h := 0xC0#8, f := flags false true false true } 0xC000#16 0xFF#8)
    (fun t => t.peek 0xC000#16 == 0x00#8 && t.f == flags true false true true) = true := by decide
/-- R619. -/
theorem test_dec_l : after [0x2D#8] { base with l := 0x10#8 }
    (fun t => t.l == 0x0F#8 && t.f == flags false true true false) = true := by decide
/-- R700: A = 0x85. -/
theorem test_rlca : after [0x07#8] { base with a := 0x85#8 }
    (fun t => t.a == 0x0B#8 && t.f == flags false false false true) = true := by decide
/-- R701. -/
theorem test_rrca : after [0x0F#8] { base with a := 0x3B#8 }
    (fun t => t.a == 0x9D#8 && t.f == flags false false false true) = true := by decide
/-- R702: Z stays 0 for a zero result. -/
theorem test_rla_zero : after [0x17#8] { base with a := 0x80#8, f := flags true true true false }
    (fun t => t.a == 0x00#8 && t.f == flags false false false true) = true := by decide
/-- R703. -/
theorem test_rra : after [0x1F#8] { base with a := 0x81#8 }
    (fun t => t.a == 0x40#8 && t.f == flags false false false true) = true := by decide
/-- R704 (95 W3): A = 0x10 with H. -/
theorem test_daa_half : after [0x27#8] { base with a := 0x10#8, f := flags false false true false }
    (fun t => t.a == 0x16#8 && t.f == flags false false false false) = true := by decide
/-- R704, the band of 93 X1: the document's text adds 0x66 and sets C. -/
theorem test_daa_band : after [0x27#8] { base with a := 0x94#8, f := flags false false true false }
    (fun t => t.a == 0xFA#8 && t.f == flags false false false true) = true := by decide
/-- R705. -/
theorem test_cpl : after [0x2F#8] { base with a := 0x35#8 }
    (fun t => t.a == 0xCA#8 && t.f == flags false true true false) = true := by decide
/-- R706. -/
theorem test_scf : after [0x37#8] { base with f := flags true true true false }
    (fun t => t.f == flags true false false true) = true := by decide
/-- R707. -/
theorem test_ccf : after [0x3F#8] { base with f := flags false false true true }
    (fun t => t.f == flags false false false false) = true := by decide
/-- R801. -/
theorem test_add_hl_bc : after [0x09#8] { base with h := 0x8A#8, l := 0x23#8, b := 0x06#8, c := 0x05#8 }
    (fun t => t.hl == 0x9028#16 && t.f == flags false false true false) = true := by decide
/-- R802: 0xFFFF becomes 0x0000 and no flag reports it. -/
theorem test_inc_de_wrap : after [0x13#8] { base with d := 0xFF#8, e := 0xFF#8 }
    (fun t => t.de == 0x0000#16 && t.f == flags false false false false) = true := by decide
/-- R803. -/
theorem test_dec_de : after [0x1B#8] { base with d := 0x23#8, e := 0x5F#8 } (fun t => t.de == 0x235E#16) = true := by decide
/-- R800: e = 0xFF, SP = 0x0001. -/
theorem test_add_sp_e8 : after [0xE8#8, 0xFF#8] { base with sp := 0x0001#16, f := flags true true false false }
    (fun t => t.sp == 0x0000#16 && t.f == flags false false true true) = true := by decide
/-- R805. -/
theorem test_ld_hl_sp_e8 : after [0xF8#8, 0x02#8] { base with sp := 0xFFF8#16 }
    (fun t => t.hl == 0xFFFA#16 && t.sp == 0xFFF8#16 && t.f == flags false false false false) = true := by decide
/-- R901 (95 W2). -/
theorem test_halt : after [0x76#8] { base with pc := 0x0200#16 }
    (fun t => t.halted && t.pc == 0x0201#16 && t.bus.calls == [.read 0x0200#16 0x76#8]) = true := by decide
/-- R902. -/
theorem test_stop : after [0x10#8, 0x00#8] { base with pc := 0x0150#16 }
    (fun t => t.stopped && t.pc == 0x0152#16) = true := by decide
/-- R903, R904. -/
theorem test_di : after [0xF3#8] { base with ime := true } (fun t => !t.ime) = true := by decide
theorem test_ei : after [0xFB#8] base (fun t => t.ime) = true := by decide
/-- R905: the byte after it is not fetched. -/
theorem test_illegal : after [0xD3#8] { base with pc := 0x4000#16 }
    (fun t => t.stopped && !t.halted && t.pc == 0x4001#16 && t.bus.calls.length == 1) = true := by decide
/-- R1001: RLC B. -/
theorem test_rlc_b : after [0xCB#8, 0x00#8] { base with b := 0x85#8 }
    (fun t => t.b == 0x0B#8 && t.f == flags false false false true) = true := by decide
/-- R1003: RL L. -/
theorem test_rl_l : after [0xCB#8, 0x15#8] { base with l := 0x80#8 }
    (fun t => t.l == 0x00#8 && t.f == flags true false false true) = true := by decide
/-- R1006: SRA A. -/
theorem test_sra_a : after [0xCB#8, 0x2F#8] { base with a := 0x8A#8 }
    (fun t => t.a == 0xC5#8 && t.f == flags false false false false) = true := by decide
/-- R1007: SWAP A. -/
theorem test_swap_a : after [0xCB#8, 0x37#8] { base with a := 0xF0#8, f := flags true true true true }
    (fun t => t.a == 0x0F#8 && t.f == flags false false false false) = true := by decide
/-- R1009: BIT 4,L with L = 0xEF. -/
theorem test_bit_4_l : after [0xCB#8, 0x65#8] { base with l := 0xEF#8, f := flags false true false true }
    (fun t => t.l == 0xEF#8 && t.f == flags true false true true) = true := by decide
/-- R1010: RES 7,A. -/
theorem test_res_7_a : after [0xCB#8, 0xBF#8] { base with a := 0x80#8, f := flags false true false true }
    (fun t => t.a == 0x00#8 && t.f == flags false true false true) = true := by decide
/-- R1011, R1000: SET 3,(HL): one read and one write at the same address. -/
theorem test_set_3_atHl : after [0xCB#8, 0xDE#8] { base with h := 0xC0#8 }
    (fun t => t.peek 0xC000#16 == 0x08#8 &&
      t.bus.calls.take 2 == [.write 0xC000#16 0x08#8, .read 0xC000#16 0x00#8]) = true := by decide
/-- R1102: not taken. -/
theorem test_jp_nz_not_taken : after [0xC2#8, 0x00#8, 0x20#8] { base with f := flags true false false false }
    (fun t => t.pc == 0x0103#16) = true := by decide
/-- R1104: e8 = 0xFE jumps to the JR itself; the sum wraps. -/
theorem test_jr_self : after [0x18#8, 0xFE#8] { base with pc := 0x0200#16 } (fun t => t.pc == 0x0200#16) = true := by decide
theorem test_jr_wrap : after [0x18#8, 0x7F#8] { base with pc := 0xFFF0#16 } (fun t => t.pc == 0x0071#16) = true := by decide
/-- R1105. -/
theorem test_jr_nc_taken : after [0x30#8, 0x05#8] { base with pc := 0x0300#16 } (fun t => t.pc == 0x0307#16) = true := by decide
/-- R1106. -/
theorem test_call : after [0xCD#8, 0x34#8, 0x12#8] { base with pc := 0x0150#16 }
    (fun t => t.peek 0xFFFC#16 == 0x53#8 && t.peek 0xFFFD#16 == 0x01#8 && t.sp == 0xFFFC#16 && t.pc == 0x1234#16)
      = true := by decide
/-- R1107: not taken. -/
theorem test_call_z_not_taken : after [0xCC#8, 0x00#8, 0x30#8] { base with pc := 0x0150#16 }
    (fun t => t.pc == 0x0153#16 && t.sp == 0xFFFE#16) = true := by decide
/-- R1109. -/
theorem test_reti : after [0xD9#8] (State.poked (State.poked { base with sp := 0xFFFC#16 } 0xFFFC#16 0x53#8) 0xFFFD#16 0x01#8)
    (fun t => t.pc == 0x0153#16 && t.sp == 0xFFFE#16 && t.ime) = true := by decide
/-- R1110. -/
theorem test_ret_c : after [0xD8#8]
    (State.poked (State.poked { base with sp := 0xFFFC#16, f := flags false false false true } 0xFFFC#16 0x53#8) 0xFFFD#16 0x01#8)
    (fun t => t.pc == 0x0153#16 && t.sp == 0xFFFE#16) = true := by decide
/-- R1111. -/
theorem test_rst_28 : after [0xEF#8] { base with pc := 0x0200#16 }
    (fun t => t.peek 0xFFFC#16 == 0x01#8 && t.peek 0xFFFD#16 == 0x02#8 && t.pc == 0x0028#16) = true := by decide

/-- R201: a read returns what the bus answers, not what the RAM holds. -/
theorem test_bus_answers :
    (match step { base with bus := { mem := [], answers := [0x7E#8, 0x99#8], calls := [] } } with
      | .next t => t.a == 0x99#8 && t.bus.answers == []
      | _ => false) = true := by decide

/-! ### Witnesses: for each statement with hypotheses, values that meet all of them -/

theorem witness_DecodeOfEncodeIsTheInstruction :
    Instr.wellFormed .two (.stop 0xFF#8) = true ∧ Instr.wellFormed .one (.stop 0x00#8) = true ∧
      Instr.wellFormed .one .nop = true := by decide
theorem witness_EncodeOfDecodeIsTheBytes : decode .two [0xCB#8, 0xFF#8, 0x00#8] = .ok (.cbSet7A, [0x00#8]) := rfl
theorem witness_DecodeRejectsOnlyTruncatedBytes :
    (∃ err, decode .two [0xCB#8] = .error err) ∧ ∀ op rest, [0xCB#8] = op :: rest → [0xCB#8].length < instrLength .two op :=
  ⟨⟨_, rfl⟩, fun op rest h => by cases h; decide⟩
theorem witness_IllegalOpcodesAreElevenAndStopTheCore :
    (decodeOpcode .two 0xD3#8 0x00#8 0x00#8).isIllegal = true ∧
      (decodeOpcode .one 0xFD#8 0xFF#8 0xFF#8).isIllegal = true := by decide
theorem witness_StepRunsTheDecodedInstruction :
    ∃ (s0 s : State) (rest : List Byte), s0.coreTurn = some s ∧ s.running = true ∧ s.bus.answers = [] ∧
      decode Config.stopLength [s.peek s.pc, s.peek (s.pc + 1), s.peek (s.pc + 2)] = .ok (.jpN16 0x0150#16, rest) :=
  ⟨{ ({ base with pc := 0xFFFF#16 } : State).placeInstr [0xC3#8, 0x50#8, 0x01#8] with events := [.tick, .reset] }, _, [],
    rfl, by decide, by decide, rfl⟩
theorem witness_StepRunsTheInstructionTheBusAnswers :
    ∃ s0 s : State, s0.coreTurn = some s ∧ s.running = true ∧ s.bus.answers = [0x3E#8, 0x05#8] ++ [0xC6#8] ∧
      decode Config.stopLength [0x3E#8, 0x05#8] = .ok (.ldAN8 0x05#8, []) :=
  ⟨{ base with bus := { mem := [], answers := [0x3E#8, 0x05#8, 0xC6#8], calls := [] } }, _, rfl, by decide, by decide, rfl⟩
theorem witness_HaltedOrStoppedStepChangesNothing :
    ({ base with halted := true } : State).coreTurn = some { base with halted := true } ∧
      ({ base with stopped := true, events := [.tick] } : State).coreTurn = some { base with stopped := true } ∧
      ((({ base with halted := true } : State).halted != ({ base with halted := true } : State).stopped) = true) ∧
      ((({ base with stopped := true } : State).halted != ({ base with stopped := true } : State).stopped) = true) := by
  decide
theorem witness_StepIsRefusedOnlyWhenHaltedAndStopped :
    (∃ s : State, s.coreTurn.isSome = true ∧ s.halted = true ∧ s.stopped = true) ∧
      ¬ (base.coreTurn.isSome = true ∧ base.halted = true ∧ base.stopped = true) :=
  ⟨⟨{ base with halted := true, stopped := true }, rfl, rfl, rfl⟩, by decide⟩
/-- SP = 0xFFFF: the high byte is read at 0x0000. -/
theorem witness_PopLoadsThePairFromSp :
    ∃ (s s1 s2 : State) (lo hi : Byte), s.sp = 0xFFFF#16 ∧ s1 = s.afterRead s.sp ∧ lo = s.answer s.sp ∧
      s2 = s1.afterRead (s.sp + 1) ∧ hi = s1.answer (s.sp + 1) ∧ lo = 0x34#8 ∧ hi = 0x12#8 :=
  ⟨State.poked (State.poked { base with sp := 0xFFFF#16 } 0xFFFF#16 0x34#8) 0x0000#16 0x12#8, _, _, _, _,
    rfl, rfl, rfl, rfl, rfl, by decide, by decide⟩
theorem witness_PopAfLoadsAAndTheFlags :
    ∃ (s s1 s2 : State) (lo hi : Byte), s1 = s.afterRead s.sp ∧ lo = s.answer s.sp ∧
      s2 = s1.afterRead (s.sp + 1) ∧ hi = s1.answer (s.sp + 1) ∧ lo = 0xFF#8 ∧ hi = 0x12#8 :=
  ⟨State.poked (State.poked { base with sp := 0xC000#16 } 0xC000#16 0xFF#8) 0xC001#16 0x12#8, _, _, _, _,
    rfl, rfl, rfl, rfl, by decide, by decide⟩
theorem witness_PushThenPopRestoresThePair :
    (State.poked base 0xC000#16 0x5A#8).memWf = true ∧ (State.poked base 0xC000#16 0x5A#8).bus.answers = [] := by decide
theorem witness_AddAndAdcSetAAndTheFlags :
    ∃ (s : State) (cin : Nat), (AluOp.add = .add ∧ 0 = 0) ∧ (AluOp.adc = .adc ∧ cin = s.f.c.toNat) ∧ cin = 1 :=
  ⟨{ base with f := flags false false false true }, 1, ⟨rfl, rfl⟩, ⟨rfl, rfl⟩, rfl⟩
theorem witness_SubAndSbcSetAAndTheFlags :
    ∃ (s : State) (cin : Nat), (AluOp.sub = .sub ∧ 0 = 0) ∧ (AluOp.sbc = .sbc ∧ cin = s.f.c.toNat) ∧ cin = 1 :=
  ⟨{ base with f := flags false false false true }, 1, ⟨rfl, rfl⟩, ⟨rfl, rfl⟩, rfl⟩
theorem witness_CpSetsOnlyTheFlags :
    ∃ after : Byte → State → State, after = fun v t => { t with
      f := { z := base.a == v, n := true, h := decide (base.a.toNat % 16 < v.toNat % 16),
             c := decide (base.a.toNat < v.toNat) } } :=
  ⟨_, rfl⟩
theorem witness_LogicSetsAAndTheFlags :
    ∃ f g h : Byte → Byte, f = (base.a &&& ·) ∧ g = (base.a ^^^ ·) ∧ h = (base.a ||| ·) :=
  ⟨_, _, _, rfl, rfl, rfl⟩
/-- v = 0xFF is the boundary of INC, v = 0x00 the boundary of DEC. -/
theorem witness_IncAndDecStepTheOperand :
    ∃ incF decF : Byte → Flags,
      incF = (fun v => { base.f with z := v + 1 == 0x00#8, n := false, h := v.toNat % 16 == 0xF }) ∧
      decF = (fun v => { base.f with z := v - 1 == 0x00#8, n := true, h := v.toNat % 16 == 0x0 }) ∧
      incF 0xFF#8 = flags true false true false ∧ decF 0x00#8 = flags false true true false :=
  ⟨_, _, rfl, rfl, by decide, by decide⟩
theorem witness_ZeroFlagReflectsTheResultInA :
    (Instr.subA = .daa ∨ ∃ op, op ≠ .cp ∧ ((∃ m, Instr.subA = .alu op m) ∨ ∃ n, Instr.subA = .aluImm op n)) :=
  .inr ⟨.sub, by decide, .inl ⟨.a, rfl⟩⟩
theorem witness_AccumulatorRotates :
    ∃ fl : Bool → Flags, fl = fun c => { z := false, n := false, h := false, c := c } := ⟨_, rfl⟩
/-- Both paths, the first at the full-width boundary A = 0xFF (92 D15). -/
theorem witness_DaaAdjustsA :
    (∃ (s : State) (a1 a2 : Nat) (c : Bool), s.f.n = false ∧
      a1 = s.a.toNat + (if s.f.h = true ∨ s.a.toNat % 16 > 9 then 0x06 else 0) ∧
      c = (s.f.c || decide (a1 > 0x99)) ∧ a2 = a1 + (if c then 0x60 else 0) ∧ a1 = 0x105 ∧ c = true) ∧
    (∃ (s : State) (a2 : Int), s.f.n = true ∧
      a2 = (s.a.toNat : Int) - (if s.f.h then 0x06 else 0) - (if s.f.c then 0x60 else 0) ∧ a2 = -6) :=
  ⟨⟨{ base with a := 0xFF#8 }, 0x105, 0x165, true, by decide, by decide, by decide, by decide, by decide, by decide⟩,
    ⟨{ base with f := flags false true true false }, -6, by decide, by decide, by decide⟩⟩
theorem witness_DaaCorrectsDecimalAddition :
    ∃ (x y : Nat) (s : State), x < 100 ∧ y < 100 ∧ s.a = bcd x ∧ x = 99 ∧ y = 99 :=
  ⟨99, 99, { base with a := 0x99#8 }, by decide, by decide, by decide, rfl, rfl⟩
theorem witness_DaaCorrectsDecimalSubtraction :
    ∃ (x y : Nat) (s : State), x < 100 ∧ y < 100 ∧ s.a = bcd x ∧ x = 0 ∧ y = 99 :=
  ⟨0, 99, base, by decide, by decide, by decide, rfl, rfl⟩
/-- HL = 0xFFFF and BC = 0x0001: the sum passes 16 bits. -/
theorem witness_WordArithmetic :
    ∃ (s : State) (sum : Nat), sum = s.hl.toNat + (s.rp .bc).toNat ∧ sum = 0x10000 :=
  ⟨{ base with h := 0xFF#8, l := 0xFF#8, c := 0x01#8 }, 0x10000, by decide, rfl⟩
/-- R800's corner case: e = 0xFF, SP = 0x0001. -/
theorem witness_SpRelativeArithmetic :
    ∃ (e : Byte) (s : State) (r : Word) (f : Flags),
      r = BitVec.ofInt 16 ((s.sp.toNat : Int) + e.toInt) ∧
      f = { z := false, n := false, h := decide (s.sp.toNat % 16 + e.toNat % 16 > 0xF),
            c := decide (s.sp.toNat % 256 + e.toNat > 0xFF) } ∧ r = 0x0000#16 ∧ f = flags false false true true :=
  ⟨0xFF#8, { base with sp := 0x0001#16 }, 0x0000#16, flags false false true true, by decide, by decide, rfl, rfl⟩
/-- Each of the eight forms, at an operand whose outgoing bit is set. -/
theorem witness_RotatesAndShifts (cin : Bool) :
    (∃ val out, ShiftOp.rlc = .rlc ∧ val = (fun v : Byte => v.rotateLeft 1) ∧ out = (fun v : Byte => v.getLsbD 7) ∧
      val 0x80#8 = 0x01#8 ∧ out 0x80#8 = true) ∧
    (∃ val out, ShiftOp.rrc = .rrc ∧ val = (fun v : Byte => v.rotateRight 1) ∧ out = (fun v : Byte => v.getLsbD 0) ∧
      val 0x01#8 = 0x80#8 ∧ out 0x01#8 = true) ∧
    (∃ val out, ShiftOp.rl = .rl ∧ val = (fun v : Byte => v.extractLsb' 0 7 ++ BitVec.ofBool cin) ∧
      out = (fun v : Byte => v.getLsbD 7) ∧ (val 0x80#8).toNat = cin.toNat ∧ out 0x80#8 = true) ∧
    (∃ val out, ShiftOp.rr = .rr ∧ val = (fun v : Byte => BitVec.ofBool cin ++ v.extractLsb' 1 7) ∧
      out = (fun v : Byte => v.getLsbD 0) ∧ (val 0x01#8).toNat = 128 * cin.toNat ∧ out 0x01#8 = true) ∧
    (∃ val out, ShiftOp.sla = .sla ∧ val = (fun v : Byte => v.extractLsb' 0 7 ++ 0b0#1) ∧
      out = (fun v : Byte => v.getLsbD 7) ∧ val 0x80#8 = 0x00#8 ∧ out 0x80#8 = true) ∧
    (∃ val out, ShiftOp.sra = .sra ∧ val = (fun v : Byte => v.sshiftRight 1) ∧ out = (fun v : Byte => v.getLsbD 0) ∧
      val 0xFF#8 = 0xFF#8 ∧ out 0xFF#8 = true) ∧
    (∃ val out, ShiftOp.swap = .swap ∧ val = (fun v : Byte => v.extractLsb' 0 4 ++ v.extractLsb' 4 4) ∧
      out = (fun _ : Byte => false) ∧ val 0xF0#8 = 0x0F#8 ∧ out 0xF0#8 = false) ∧
    (∃ val out, ShiftOp.srl = .srl ∧ val = (fun v : Byte => 0b0#1 ++ v.extractLsb' 1 7) ∧
      out = (fun v : Byte => v.getLsbD 0) ∧ val 0xFF#8 = 0x7F#8 ∧ out 0xFF#8 = true) := by
  cases cin <;> exact ⟨⟨_, _, rfl, rfl, rfl, by decide, by decide⟩, ⟨_, _, rfl, rfl, rfl, by decide, by decide⟩,
    ⟨_, _, rfl, rfl, rfl, by decide, by decide⟩, ⟨_, _, rfl, rfl, rfl, by decide, by decide⟩,
    ⟨_, _, rfl, rfl, rfl, by decide, by decide⟩, ⟨_, _, rfl, rfl, rfl, by decide, by decide⟩,
    ⟨_, _, rfl, rfl, rfl, by decide, by decide⟩, ⟨_, _, rfl, rfl, rfl, by decide, by decide⟩⟩
theorem witness_BitTestsOneBit :
    ∃ fl : Byte → Flags, fl = (fun v => { z := !v.getLsbD Octal.n7.toNat, n := false, h := true, c := base.f.c }) ∧
      fl 0x80#8 = flags false false true false :=
  ⟨_, rfl, by decide⟩
/-- Each of the four conditions holds in one state and fails in another. -/
theorem witness_conditions (cc : Cond) (taken : Bool) :
    ∃ s : State, taken = (match cc with | .nz => !s.f.z | .z => s.f.z | .nc => !s.f.c | .c => s.f.c) := by
  cases cc <;> cases taken <;>
    first | exact ⟨base, rfl⟩ | exact ⟨{ base with f := flags true false false true }, rfl⟩
theorem witness_AbsoluteJumps :
    ∃ taken : Bool, taken = (match Cond.nc with | .nz => !base.f.z | .z => base.f.z | .nc => !base.f.c | .c => base.f.c) :=
  ⟨true, by decide⟩
/-- The wrap of R1104's corner case: the JR at 0xFFF0 with e8 = 0x7F. -/
theorem witness_RelativeJumps :
    ∃ (s : State) (e : Byte) (taken : Bool) (target : Word),
      taken = (match Cond.c with | .nz => !s.f.z | .z => s.f.z | .nc => !s.f.c | .c => s.f.c) ∧
      target = BitVec.ofInt 16 ((s.pc.toNat : Int) + e.toInt) ∧ target = 0x0071#16 :=
  ⟨{ base with pc := 0xFFF2#16 }, 0x7F#8, false, 0x0071#16, by decide, by decide, rfl⟩
/-- R500's corner case: SP = 0x0001 pushes to 0xFFFF and 0x0000. -/
theorem witness_CallsPushTheReturnAddress :
    ∃ (s : State) (taken : Bool) (pushed : State), s.sp = 0x0001#16 ∧
      taken = (match Cond.nz with | .nz => !s.f.z | .z => s.f.z | .nc => !s.f.c | .c => s.f.c) ∧
      pushed = ({ s with sp := s.sp - 2 }.busWrite (s.sp - 2) (lowByte s.pc)
        |>.busWrite (s.sp - 2 + 1) (highByte s.pc)) ∧ pushed.sp = 0xFFFF#16 ∧ pushed.peek 0x0000#16 = 0x01#8 :=
  ⟨{ base with sp := 0x0001#16 }, true, _, rfl, by decide, rfl, by decide, by decide⟩
theorem witness_ReturnsPopThePc :
    ∃ (s s1 popped : State) (taken : Bool),
      taken = (match Cond.z with | .nz => !s.f.z | .z => s.f.z | .nc => !s.f.c | .c => s.f.c) ∧
      s1 = s.afterRead s.sp ∧
      popped = { s1.afterRead (s.sp + 1) with
        sp := s.sp + 2, pc := s1.answer (s.sp + 1) ++ s.answer s.sp } ∧ popped.sp = 0x0000#16 :=
  ⟨base, _, _, false, by decide, rfl, rfl, by decide⟩
theorem witness_RetReturnsAfterCall :
    ((∃ nn, Instr.rst38 = .callN16 nn) ∨ (∃ y, Instr.rst38 = .rst y)) ∧
      ({ base with sp := 0x0001#16, pc := 0x0000#16 } : State).memWf = true ∧
      ({ base with sp := 0x0001#16, pc := 0x0000#16 } : State).bus.answers = [] :=
  ⟨.inr ⟨.n7, rfl⟩, by decide, by decide⟩
/-- A flag, a register and the mode of which `effect` says that CP leaves them, or NOP does. -/
theorem witness_InstructionsChangeOnlyWhatTheirRuleNames :
    Reg8.a ∉ (effect .cpA).regs ∧ (effect .nop).z = false ∧ (effect .nop).n = false ∧ (effect .nop).h = false ∧
      (effect .incA).c = false ∧ (effect .nop).sp = false ∧ (effect .nop).pc = false ∧ (effect .ret).ime = false ∧
      (effect (.stop 0x00#8)).halted = false ∧ (effect .halt).stopped = false := by decide
theorem witness_InstructionsStoreOnlyAtTheirAddresses :
    (0xFFFB#16 : Word) ∉ storedAddresses .pushBc base ∧ (0xFFFE#16 : Word) ∉ storedAddresses .pushBc base ∧
      storedAddresses .pushBc base = [0xFFFC#16, 0xFFFD#16] := by decide
theorem witness_CpuStateIsWrittenOnlyByItsInstructions :
    (∃ t, exec .ei base = .next t ∧ t.ime ≠ base.ime) ∧ (∃ t, exec .halt base = .next t ∧ t.halted ≠ base.halted) ∧
      (∃ t, exec .illegalD3 base = .next t ∧ t.stopped ≠ base.stopped) :=
  ⟨⟨_, rfl, by decide⟩, ⟨_, rfl, by decide⟩, ⟨_, rfl, by decide⟩⟩
theorem witness_NAndHAreReadOnlyByDaaAndPushAf : Instr.popAf ≠ .daa ∧ Instr.popAf ≠ .pushAf := by decide
theorem witness_AnInstructionDependsOnlyOnTheBusAnswers :
    2 ≤ ({ base with bus := { mem := [], answers := [0x00#8, 0xFF#8], calls := [] } } : State).bus.answers.length := by
  decide
/-- A call makes five: three fetches and two writes. -/
theorem witness_StepsOnlyAddBusCalls :
    ∃ t, step (base.placeInstr [0xCD#8, 0x34#8, 0x12#8]) = .next t ∧ t.bus.calls.length = 5 := ⟨_, rfl, by decide⟩
theorem witness_StepKeepsTheMemoryCanonical :
    (base.placeInstr [0xC5#8]).memWf = true ∧ ∃ t, step (base.placeInstr [0xC5#8]) = .next t := ⟨by decide, _, rfl⟩
theorem witness_TickKeepsTheModeAdmitted :
    (base.placeInstr [0x76#8]).coreTurn = some (base.placeInstr [0x76#8]) ∧ (base.placeInstr [0x76#8]).legalMode = true ∧
      ∃ t, step (base.placeInstr [0x76#8]) = .next t := ⟨by decide, by decide, _, rfl⟩
theorem witness_ResetGivesTheTableOfValues :
    ({ base with stopped := true, events := [.reset, .tick] } : State).events = .reset :: [.tick] := rfl
/-- R1300, R1208, R131: a reset event clears Stopped and SP, and leaves memory. -/
theorem test_reset_event :
    ∃ t, step { base.placeInstr [0x3C#8] with stopped := true, events := [.reset] } = .next t ∧
      t.stopped = false ∧ t.sp = 0x0000#16 ∧ t.peek 0x0100#16 = 0x3C#8 := ⟨_, rfl, by decide⟩
theorem witness_DispatcherMovesReachOnlyWhatIsExposed :
    ({ base with events := [.dispatcher (.busWrite 0xFF0F#16 0x01#8), .reset] } : State).events =
      .dispatcher (.busWrite 0xFF0F#16 0x01#8) :: [.reset] := rfl
theorem witness_InterruptServiceAndRetiResumeTheProgram :
    ({ base with ime := true, halted := true, sp := 0x0001#16 } : State).memWf = true ∧
      ({ base with ime := true, halted := true, sp := 0x0001#16 } : State).bus.answers = [] := by decide
theorem witness_WordAccessesAreLittleEndian : base.memWf = true ∧ base.bus.answers = [] := by decide

end Sys2Proof.Tests
end

section
/-! The encoder by family of instructions, in the bit patterns of R304 to R306. -/

namespace Sys2Proof

section
variable (len : StopLength)

@[simp] theorem encode_load (y z : R8) : encode len (.load y z) = [0b01#2 ++ y.code ++ z.code] := by
  cases y <;> cases z <;> rfl

@[simp] theorem encode_alu (op : AluOp) (m : R8) : encode len (.alu op m) = [0b10#2 ++ op.code ++ m.code] := by
  cases op <;> cases m <;> rfl

@[simp] theorem encode_aluImm (op : AluOp) (n : Byte) :
    encode len (.aluImm op n) = [0b11#2 ++ op.code ++ 0b110#3, n] := by
  cases op <;> rfl

@[simp] theorem encode_inc (m : R8) : encode len (.inc m) = [0b00#2 ++ m.code ++ 0b100#3] := by
  cases m <;> rfl

@[simp] theorem encode_dec (m : R8) : encode len (.dec m) = [0b00#2 ++ m.code ++ 0b101#3] := by
  cases m <;> rfl

@[simp] theorem encode_loadImm (m : R8) (n : Byte) :
    encode len (.loadImm m n) = [0b00#2 ++ m.code ++ 0b110#3, n] := by
  cases m <;> rfl

@[simp] theorem encode_loadRp (p : Rp) (nn : Word) :
    encode len (.loadRp p nn) = [0b00#2 ++ p.code ++ 0b0001#4, lowByte nn, highByte nn] := by
  cases p <;> rfl

@[simp] theorem encode_addHl (p : Rp) : encode len (.addHl p) = [0b00#2 ++ p.code ++ 0b1001#4] := by
  cases p <;> rfl

@[simp] theorem encode_incRp (p : Rp) : encode len (.incRp p) = [0b00#2 ++ p.code ++ 0b0011#4] := by
  cases p <;> rfl

@[simp] theorem encode_decRp (p : Rp) : encode len (.decRp p) = [0b00#2 ++ p.code ++ 0b1011#4] := by
  cases p <;> rfl

@[simp] theorem encode_storeInd (p : Ind) : encode len (.storeInd p) = [0b00#2 ++ p.code ++ 0b0010#4] := by
  cases p <;> rfl

@[simp] theorem encode_loadInd (p : Ind) : encode len (.loadInd p) = [0b00#2 ++ p.code ++ 0b1010#4] := by
  cases p <;> rfl

@[simp] theorem encode_push (q : Rp2) : encode len (.push q) = [0b11#2 ++ q.code ++ 0b0101#4] := by
  cases q <;> rfl

@[simp] theorem encode_pop (q : Rp2) : encode len (.pop q) = [0b11#2 ++ q.code ++ 0b0001#4] := by
  cases q <;> rfl

@[simp] theorem encode_jrCond (cc : Cond) (e : Byte) :
    encode len (.jrCond cc e) = [0b001#3 ++ cc.code ++ 0b000#3, e] := by
  cases cc <;> rfl

@[simp] theorem encode_jpCond (cc : Cond) (nn : Word) :
    encode len (.jpCond cc nn) = [0b110#3 ++ cc.code ++ 0b010#3, lowByte nn, highByte nn] := by
  cases cc <;> rfl

@[simp] theorem encode_callCond (cc : Cond) (nn : Word) :
    encode len (.callCond cc nn) = [0b110#3 ++ cc.code ++ 0b100#3, lowByte nn, highByte nn] := by
  cases cc <;> rfl

@[simp] theorem encode_retCond (cc : Cond) : encode len (.retCond cc) = [0b110#3 ++ cc.code ++ 0b000#3] := by
  cases cc <;> rfl

@[simp] theorem encode_rst (y : Octal) : encode len (.rst y) = [0b11#2 ++ y.code ++ 0b111#3] := by
  cases y <;> rfl

@[simp] theorem encode_shift (op : ShiftOp) (m : R8) :
    encode len (.shift op m) = [0xCB#8, 0b00#2 ++ op.code ++ m.code] := by
  cases op <;> cases m <;> rfl

@[simp] theorem encode_bit (b : Octal) (m : R8) :
    encode len (.bit b m) = [0xCB#8, 0b01#2 ++ b.code ++ m.code] := by
  cases b <;> cases m <;> rfl

@[simp] theorem encode_res (b : Octal) (m : R8) :
    encode len (.res b m) = [0xCB#8, 0b10#2 ++ b.code ++ m.code] := by
  cases b <;> cases m <;> rfl

@[simp] theorem encode_set (b : Octal) (m : R8) :
    encode len (.set b m) = [0xCB#8, 0b11#2 ++ b.code ++ m.code] := by
  cases b <;> cases m <;> rfl

end

end Sys2Proof
end

section
/-! How many bytes an instruction has, by the fields of its first byte (R301, R304, R309): the decoder reads no more of
them, and the encoder writes as many. A split follows the decoder's branches: the field z, then y, or q and p. -/

namespace Sys2Proof

/-- R304, R309: the length of an instruction of block 0, by the fields of its opcode. -/
def block0Length (len : StopLength) (op : Byte) : Nat :=
  match fieldZ op with
  | 0 =>
    match fieldY op with
    | 0 => 1
    | 1 => 3
    | 2 => len.toNat
    | _ => 2
  | 1 =>
    match fieldQ op with
    | 0 => 3
    | _ => 1
  | 6 => 2
  | _ => 1

/-- R304, R309: the length of an instruction of block 3, by the fields of its opcode. -/
def block3Length (op : Byte) : Nat :=
  match fieldZ op with
  | 0 =>
    match fieldY op with
    | 4 | 5 | 6 | 7 => 2
    | _ => 1
  | 2 =>
    match fieldY op with
    | 4 | 6 => 1
    | _ => 3
  | 3 =>
    match fieldY op with
    | 0 => 3
    | 1 => 2
    | _ => 1
  | 4 =>
    match fieldY op with
    | 4 | 5 | 6 | 7 => 1
    | _ => 3
  | 5 =>
    match fieldQ op, fieldP op with
    | 0, _ => 1
    | _, 0 => 3
    | _, _ => 1
  | 6 => 2
  | _ => 1

theorem instrLength_block0 (len : StopLength) (op : Byte) (hx : fieldX op = 0) :
    instrLength len op = block0Length len op := by
  cases len <;> revert op <;> decide

theorem instrLength_block1_or_2 (len : StopLength) (op : Byte) (hx : fieldX op = 1 ∨ fieldX op = 2) :
    instrLength len op = 1 := by
  cases len <;> revert op <;> decide

theorem instrLength_block3 (len : StopLength) (op : Byte) (h0 : fieldX op ≠ 0) (h1 : fieldX op ≠ 1)
    (h2 : fieldX op ≠ 2) : instrLength len op = block3Length op := by
  cases len <;> revert op <;> decide

theorem decodeStop_congr {len : StopLength} {b1 c1 : Byte} (h1 : 2 ≤ len.toNat → b1 = c1) :
    decodeStop len b1 = decodeStop len c1 := by
  cases len with
  | one => rfl
  | two => rw [h1 (Nat.le_refl 2)]

/-- Block 0: a branch of the decoder reads no byte past the length it has. -/
theorem decodeBlock0_congr {len : StopLength} {op b1 b2 c1 c2 : Byte}
    (h1 : 2 ≤ block0Length len op → b1 = c1) (h2 : 3 ≤ block0Length len op → b2 = c2) :
    decodeBlock0 len op b1 b2 = decodeBlock0 len op c1 c2 := by
  unfold decodeBlock0
  unfold block0Length at h1 h2
  generalize fieldZ op = z, fieldY op = y, fieldQ op = q at h1 h2 ⊢
  split
  · split
    · rfl
    · rw [h1 (by simp), h2 (by simp)]
    · exact decodeStop_congr h1
    · rw [h1 (by simp)]
    · simp_all
  · split <;> simp_all
  · rfl
  · rfl
  · rfl
  · rfl
  · rw [h1 (by simp)]
  · rfl

/-- Block 3: a branch of the decoder reads no byte past the length it has. -/
theorem decodeBlock3_congr {op b1 b2 c1 c2 : Byte}
    (h1 : 2 ≤ block3Length op → b1 = c1) (h2 : 3 ≤ block3Length op → b2 = c2) :
    decodeBlock3 op b1 b2 = decodeBlock3 op c1 c2 := by
  unfold decodeBlock3
  unfold block3Length at h1 h2
  generalize fieldZ op = z, fieldY op = y, fieldQ op = q, fieldP op = p at h1 h2 ⊢
  split
  · split
    · rw [h1 (by simp)]
    · rw [h1 (by simp)]
    · rw [h1 (by simp)]
    · rw [h1 (by simp)]
    · rfl
  · rfl
  · split <;> simp_all
  · split
    · rw [h1 (by simp), h2 (by simp)]
    · rw [h1 (by simp)]
    all_goals rfl
  · split <;> simp_all
  · split <;> simp_all
  · rw [h1 (by simp)]
  · rfl

theorem encode_decodeStop_length (len : StopLength) (b : Byte) : (encode len (decodeStop len b)).length = len.toNat := by
  cases len <;> rfl

theorem encode_decodeCb_length (len : StopLength) (b : Byte) : (encode len (decodeCb b)).length = 2 := by
  unfold decodeCb
  split <;> simp

/-- Block 0: the encoder writes as many bytes as the branch of the decoder has. -/
theorem encode_decodeBlock0_length (len : StopLength) (op b1 b2 : Byte) :
    (encode len (decodeBlock0 len op b1 b2)).length = block0Length len op := by
  unfold decodeBlock0 block0Length
  generalize fieldZ op = z, fieldY op = y, fieldQ op = q
  split
  · split
    · rfl
    · rfl
    · exact encode_decodeStop_length len b1
    · rfl
    · simp [*]
  · split <;> simp [*]
  · split <;> simp
  · split <;> simp
  · simp
  · simp
  · simp
  · simp only [*]
    split <;> rfl

/-- Block 3: the encoder writes as many bytes as the branch of the decoder has. -/
theorem encode_decodeBlock3_length (len : StopLength) (op b1 b2 : Byte) :
    (encode len (decodeBlock3 op b1 b2)).length = block3Length op := by
  unfold decodeBlock3 block3Length
  generalize fieldZ op = z, fieldY op = y, fieldQ op = q, fieldP op = p
  split
  · split
    · rfl
    · rfl
    · rfl
    · rfl
    · simp [*]
  · split <;> simp <;> rfl
  · split
    · rfl
    · rfl
    · rfl
    · rfl
    · simp [*]
  · split
    · rfl
    · exact encode_decodeCb_length len b1
    · rfl
    · rfl
    · rfl
    · rfl
    · rfl
    · simp only [*]
      rfl
  · split
    · rfl
    · rfl
    · rfl
    · rfl
    · simp [*]
  · split <;> simp [*] <;> rfl
  · simp
  · simp [*]

/-- R309: the encoder writes as many bytes as the opcode says. -/
theorem encode_decodeOpcode_length (len : StopLength) (op b1 b2 : Byte) :
    (encode len (decodeOpcode len op b1 b2)).length = instrLength len op := by
  unfold decodeOpcode
  split
  · rw [encode_decodeBlock0_length, instrLength_block0 len op ‹_›]
  · rw [instrLength_block1_or_2 len op (.inl ‹_›)]
    simp
  · rw [instrLength_block1_or_2 len op (.inr ‹_›)]
    simp
  · rw [encode_decodeBlock3_length, instrLength_block3 len op ‹_› ‹_› ‹_›]

/-- R309: an instruction depends on no byte past its length. -/
theorem decodeOpcode_congr {len : StopLength} {op b1 b2 c1 c2 : Byte}
    (h1 : 2 ≤ instrLength len op → b1 = c1) (h2 : 3 ≤ instrLength len op → b2 = c2) :
    decodeOpcode len op b1 b2 = decodeOpcode len op c1 c2 := by
  unfold decodeOpcode
  split
  · rw [instrLength_block0 len op ‹_›] at h1 h2
    exact decodeBlock0_congr h1 h2
  · rfl
  · rfl
  · rw [instrLength_block3 len op ‹_› ‹_› ‹_›] at h1 h2
    exact decodeBlock3_congr h1 h2

/-- R308, R309: what it takes for a list to begin with an instruction: as many bytes as its first byte says. -/
theorem decode_cons_eq_ok {len : StopLength} {op : Byte} {bs left : List Byte} {i : Instr} :
    decode len (op :: bs) = .ok (i, left) ↔
      instrLength len op - 1 ≤ bs.length ∧ i = decodeOpcode len op (bs.getD 0 0x00#8) (bs.getD 1 0x00#8) ∧
        left = bs.drop (instrLength len op - 1) := by
  by_cases hshort : bs.length < instrLength len op - 1
  · simp only [decode, if_pos hshort, Nat.not_le.mpr hshort, false_and, reduceCtorEq]
  · simp only [decode, if_neg hshort, Except.ok.injEq, Prod.mk.injEq, Nat.le_of_not_lt hshort, true_and, eq_comm]

/-- R308: a list that begins with an instruction holds all its bytes. -/
theorem encode_length_le_of_decode {len : StopLength} {bs left : List Byte} {i : Instr}
    (h : decode len bs = .ok (i, left)) : (encode len i).length ≤ bs.length := by
  cases bs with
  | nil => simp [decode] at h
  | cons op bs =>
    obtain ⟨hlen, rfl, -⟩ := decode_cons_eq_ok.mp h
    rw [encode_decodeOpcode_length, List.length_cons]
    omega

/-- R309: an instruction's own bytes, as many as the encoder writes, are enough to decode it. -/
theorem decode_take_of_decode {len : StopLength} {bs left : List Byte} {i : Instr} (h : decode len bs = .ok (i, left)) :
    decode len (bs.take (encode len i).length) = .ok (i, []) := by
  cases bs with
  | nil => simp [decode] at h
  | cons op bs =>
    obtain ⟨hlen, rfl, -⟩ := decode_cons_eq_ok.mp h
    have hpos : instrLength len op = instrLength len op - 1 + 1 := by
      have := instrLength_cases len op
      omega
    rw [encode_decodeOpcode_length, hpos, List.take_succ_cons]
    refine decode_cons_eq_ok.mpr ⟨by simp [hlen], decodeOpcode_congr (fun h1 => ?_) (fun h2 => ?_), by simp⟩
    · simp [show 0 < instrLength len op - 1 by omega]
    · simp [show 1 < instrLength len op - 1 by omega]

end Sys2Proof
end


section
/-! What a tick fetches, on any bus (R14, R201, R210): the calls made, the answers taken and PC, for any number of bytes;
then which bytes they are on a bus with answers pending and on the RAM bus. -/

namespace Sys2Proof.Machine

/-- The calls that fetch these bytes from `pc` on, oldest first. -/
def fetchCalls (pc : Word) (bs : List Byte) : List BusCall :=
  (List.range bs.length).map fun k => BusCall.read (pc + BitVec.ofNat 16 k) (bs.getD k 0x00#8)

theorem add_one_add_ofNat (pc : Word) (k : Nat) : pc + 1#16 + BitVec.ofNat 16 k = pc + BitVec.ofNat 16 (k + 1) := by
  rw [BitVec.add_assoc, BitVec.add_comm 1#16, BitVec.ofNat_add]

theorem fetchCalls_cons (pc : Word) (b : Byte) (bs : List Byte) :
    fetchCalls pc (b :: bs) = .read pc b :: fetchCalls (pc + 1) bs := by
  simp [fetchCalls, List.range_succ_eq_map, add_one_add_ofNat, Function.comp_def]

theorem fetchCalls_map_range (pc : Word) (n : Nat) (f : Nat → Byte) :
    fetchCalls pc ((List.range n).map f) = (List.range n).map fun k => BusCall.read (pc + BitVec.ofNat 16 k) (f k) := by
  simp only [fetchCalls, List.length_map, List.length_range]
  refine List.map_congr_left fun k hk => ?_
  simp [List.mem_range.mp hk]

/-- The state after `n` fetches, whatever bytes the bus returns to them. -/
theorem State.fetchBytes_state (n : Nat) (s : State) :
    (s.fetchBytes n).2 =
      { s with
        pc := s.pc + BitVec.ofNat 16 n
        bus := { s.bus with
          answers := s.bus.answers.drop n
          calls := (fetchCalls s.pc (s.fetchBytes n).1).reverse ++ s.bus.calls } } := by
  induction n generalizing s with
  | zero => simp [State.fetchBytes, fetchCalls]
  | succ n ih => simp [State.fetchBytes, ih, fetchCalls_cons, add_one_add_ofNat, State.fetch8, State.afterRead]

/-- With answers pending, fetches return them, one for one and in order. -/
theorem State.fetchBytes_pending (bs more : List Byte) (s : State) (h : s.bus.answers = bs ++ more) :
    (s.fetchBytes bs.length).1 = bs := by
  induction bs generalizing s with
  | nil => rfl
  | cons b bs ih =>
    have hfirst : s.answer s.pc = b := s.answer_pending s.pc b (bs ++ more) h
    have hrest : s.fetch8.2.bus.answers = bs ++ more := by simp [h]
    simp [State.fetchBytes, hfirst, ih s.fetch8.2 hrest]

/-- On the RAM bus, fetches return the bytes that stand from PC on. -/
theorem State.fetchBytes_ram (n : Nat) (s : State) (h : s.bus.answers = []) :
    (s.fetchBytes n).1 = (List.range n).map fun k => s.peek (s.pc + BitVec.ofNat 16 k) := by
  induction n generalizing s with
  | zero => rfl
  | succ n ih =>
    have hrest : s.fetch8.2.bus.answers = [] := by simp [h]
    have hpeek (addr : Word) : s.fetch8.2.peek addr = s.peek addr := rfl
    simp [State.fetchBytes, ih s.fetch8.2 hrest, hpeek, s.answer_ram s.pc h, List.range_succ_eq_map, add_one_add_ofNat,
      Function.comp_def]

/-- R300, R309: the fetch of an instruction is the fetch of as many bytes as it has, where these decode to it. -/
theorem State.fetchInstr_of_decode {len : StopLength} {s : State} {n : Nat} {i : Instr}
    (h : decode len (s.fetchBytes n).1 = .ok (i, [])) : s.fetchInstr len = (i, (s.fetchBytes n).2) := by
  cases n with
  | zero => simp [State.fetchBytes, decode] at h
  | succ n =>
    obtain ⟨hlen, hi, hleft⟩ := decode_cons_eq_ok.mp h
    have hn : instrLength len s.fetch8.1 - 1 = n := by
      have hle := List.drop_eq_nil_iff.mp hleft.symm
      rw [State.fetchBytes_length] at hlen hle
      exact Nat.le_antisymm hlen hle
    rw [hi, State.fetchInstr, hn]
    rfl

/-- A tick of a Running core whose fetches return the bytes of an instruction runs it in the state after the fetches. -/
theorem step_runs_fetched {s0 s : State} {n : Nat} {i : Instr} (hturn : s0.coreTurn = some s) (hrun : s.running = true)
    (hdec : decode Config.stopLength (s.fetchBytes n).1 = .ok (i, [])) : step s0 = exec i (s.fetchBytes n).2 := by
  have hmode : s.halted = false ∧ s.stopped = false := by simpa [State.running] using hrun
  rw [step_of_coreTurn hturn]
  simp [tick, hmode, State.fetchInstr_of_decode hdec]

/-- Settles O8: the fetches take the answers of the bus in order, and these are the bytes of the instruction. -/
theorem stepRunsTheInstructionTheBusAnswers : Obligations.StepRunsTheInstructionTheBusAnswers := by
  unfold Obligations.StepRunsTheInstructionTheBusAnswers
  intro s0 s i bs more hturn hrun hanswers hdec
  have hbytes : (s.fetchBytes bs.length).1 = bs := s.fetchBytes_pending bs more hanswers
  refine ⟨(fetchCalls s.pc bs).reverse, rfl, ?_⟩
  rw [step_runs_fetched (n := bs.length) hturn hrun (by rw [hbytes, hdec]), State.fetchBytes_state, hbytes, hanswers,
    List.drop_left]

/-- Settles O7: on the RAM bus the fetches return the bytes from PC on, as many as the instruction has. -/
theorem stepRunsTheDecodedInstruction : Obligations.StepRunsTheDecodedInstruction := by
  unfold Obligations.StepRunsTheDecodedInstruction
  intro s0 s i rest hturn hrun hanswers hdec
  generalize hn : (encode Config.stopLength i).length = n
  have hle : n ≤ 3 := hn ▸ encode_length_le_of_decode hdec
  have hbytes : (s.fetchBytes n).1 = [s.peek s.pc, s.peek (s.pc + 1), s.peek (s.pc + 2)].take n := by
    have hthree : [s.peek s.pc, s.peek (s.pc + 1), s.peek (s.pc + 2)] =
        (List.range 3).map fun k => s.peek (s.pc + BitVec.ofNat 16 k) := by
      simp [List.range_succ]
    rw [s.fetchBytes_ram n hanswers, hthree, ← List.map_take, List.take_range, Nat.min_eq_left hle]
  have hfetched : decode Config.stopLength (s.fetchBytes n).1 = .ok (i, []) := by
    rw [hbytes, ← hn]
    exact decode_take_of_decode hdec
  have hdrop : s.bus.answers.drop n = s.bus.answers := by rw [hanswers, List.drop_nil]
  rw [step_runs_fetched hturn hrun hfetched, State.fetchBytes_state, s.fetchBytes_ram n hanswers, fetchCalls_map_range,
    hdrop]

end Sys2Proof.Machine
end

section
/-! The data accesses of an instruction as a relation between the bus before it and the bus after it (R13, R206): one rule
per bus operation, rules composed in the order of the calls, and one case per family of instructions. -/

namespace Sys2Proof.Machine

/-- Whether a call takes an answer of the bus. -/
def Access.isRead (acc : Access) : Bool := acc matches .read _

/-- The bus goes from `b` to `b'` by exactly these accesses, in order, and takes one answer for each read. -/
def Bus.Makes (b : Bus) (accs : List Access) (b' : Bus) : Prop :=
  ∃ made : List BusCall, b'.calls = made.reverse ++ b.calls ∧ made.map BusCall.access = accs ∧
    b'.answers = b.answers.drop (accs.countP Access.isRead)

/-- The access that reading or writing a location makes: none for a register (R116). -/
def Loc.accesses (kind : Word → Access) : Loc → List Access
  | .reg8 _ => []
  | .mem addr => [kind addr]

/-! One rule per bus operation -/

theorem Bus.Makes.nothing (b : Bus) : b.Makes [] b := ⟨[], rfl, rfl, rfl⟩

theorem Bus.Makes.append {b b' b'' : Bus} {xs ys : List Access} (hx : b.Makes xs b') (hy : b'.Makes ys b'') :
    b.Makes (xs ++ ys) b'' := by
  obtain ⟨made, hcalls, hmade, hanswers⟩ := hx
  obtain ⟨made', hcalls', hmade', hanswers'⟩ := hy
  refine ⟨made ++ made', ?_, ?_, ?_⟩
  · simp [hcalls', hcalls]
  · simp [hmade, hmade']
  · simp [hanswers', hanswers, List.drop_drop]

theorem State.afterRead_makes (s : State) (addr : Word) : s.bus.Makes [.read addr] (s.afterRead addr).bus :=
  ⟨[.read addr (s.answer addr)], rfl, rfl, List.drop_one.symm⟩

theorem State.busWrite_makes (s : State) (addr : Word) (v : Byte) :
    s.bus.Makes [.write addr] (s.busWrite addr v).bus :=
  ⟨[.write addr v], rfl, rfl, rfl⟩

theorem State.afterLocRead_makes (s : State) (loc : Loc) :
    s.bus.Makes (loc.accesses .read) (s.afterLocRead loc).bus := by
  cases loc with
  | reg8 r => exact .nothing _
  | mem addr => exact s.afterRead_makes addr

theorem State.writeLoc_makes (s : State) (loc : Loc) (v : Byte) :
    s.bus.Makes (loc.accesses .write) (s.writeLoc loc v).bus := by
  cases loc with
  | reg8 r => simpa [Loc.accesses] using Bus.Makes.nothing s.bus
  | mem addr => exact s.busWrite_makes addr v

/-- R1000: reading a location and then writing it. -/
theorem State.updateLoc_makes (s : State) (src dst : Loc) (v : Byte) :
    s.bus.Makes (src.accesses .read ++ dst.accesses .write) ((s.afterLocRead src).writeLoc dst v).bus :=
  (s.afterLocRead_makes src).append (State.writeLoc_makes _ dst v)

theorem State.busWrite16_makes (s : State) (addr v : Word) :
    s.bus.Makes [.write addr, .write (addr + 1)] (s.busWrite16 addr v).bus :=
  (s.busWrite_makes addr _).append (State.busWrite_makes _ (addr + 1) _)

theorem State.push16_makes (s : State) (v : Word) :
    s.bus.Makes [.write (s.sp - 2), .write (s.sp - 2 + 1)] (s.push16 v).bus :=
  State.busWrite16_makes { s with sp := s.sp - 2 } _ v

theorem State.pop16_makes (s : State) : s.bus.Makes [.read s.sp, .read (s.sp + 1)] s.pop16.2.bus :=
  (s.afterRead_makes s.sp).append (State.afterRead_makes _ (s.sp + 1))

/-! The operations that leave the bus alone -/

@[simp] theorem State.setRp_bus (s : State) (p : Rp) (v : Word) : (s.setRp p v).bus = s.bus := by
  cases p <;> rfl

@[simp] theorem State.setRp2_bus (s : State) (q : Rp2) (v : Word) : (s.setRp2 q v).bus = s.bus := by
  cases q <;> rfl

@[simp] theorem State.indStep_bus (s : State) (p : Ind) : (s.indStep p).bus = s.bus := by
  cases p <;> rfl

@[simp] theorem aluApply_bus (op : AluOp) (v acc : Byte) (f : Flags) (s : State) :
    (aluApply op v acc f s).bus = s.bus := by
  cases op <;> rfl

/-! The accesses each family's rule lists -/

theorem accesses_load (y z : R8) (s : State) :
    accesses (.load y z) s =
      if y = .atHl ∧ z = .atHl then [] else (s.resolve z).accesses .read ++ (s.resolve y).accesses .write := by
  cases y <;> cases z <;> rfl

theorem accesses_alu (op : AluOp) (m : R8) (s : State) :
    accesses (.alu op m) s = (s.resolve m).accesses .read := by
  cases op <;> cases m <;> rfl

theorem accesses_aluImm (op : AluOp) (n : Byte) (s : State) : accesses (.aluImm op n) s = [] := by
  cases op <;> rfl

theorem accesses_shift (op : ShiftOp) (m : R8) (s : State) :
    accesses (.shift op m) s = (s.resolve m).accesses .read ++ (s.resolve m).accesses .write := by
  cases op <;> cases m <;> rfl

theorem accesses_bit (b : Octal) (m : R8) (s : State) :
    accesses (.bit b m) s = (s.resolve m).accesses .read := by
  cases b <;> cases m <;> rfl

theorem accesses_res (b : Octal) (m : R8) (s : State) :
    accesses (.res b m) s = (s.resolve m).accesses .read ++ (s.resolve m).accesses .write := by
  cases b <;> cases m <;> rfl

theorem accesses_set (b : Octal) (m : R8) (s : State) :
    accesses (.set b m) s = (s.resolve m).accesses .read ++ (s.resolve m).accesses .write := by
  cases b <;> cases m <;> rfl

theorem accesses_inc (m : R8) (s : State) :
    accesses (.inc m) s = (s.resolve m).accesses .read ++ (s.resolve m).accesses .write := by
  cases m <;> rfl

theorem accesses_dec (m : R8) (s : State) :
    accesses (.dec m) s = (s.resolve m).accesses .read ++ (s.resolve m).accesses .write := by
  cases m <;> rfl

theorem accesses_loadImm (m : R8) (n : Byte) (s : State) :
    accesses (.loadImm m n) s = (s.resolve m).accesses .write := by
  cases m <;> rfl

theorem accesses_loadRp (p : Rp) (nn : Word) (s : State) : accesses (.loadRp p nn) s = [] := by
  cases p <;> rfl

theorem accesses_addHl (p : Rp) (s : State) : accesses (.addHl p) s = [] := by
  cases p <;> rfl

theorem accesses_incRp (p : Rp) (s : State) : accesses (.incRp p) s = [] := by
  cases p <;> rfl

theorem accesses_decRp (p : Rp) (s : State) : accesses (.decRp p) s = [] := by
  cases p <;> rfl

theorem accesses_storeInd (p : Ind) (s : State) : accesses (.storeInd p) s = [.write (s.indAddr p)] := by
  cases p <;> rfl

theorem accesses_loadInd (p : Ind) (s : State) : accesses (.loadInd p) s = [.read (s.indAddr p)] := by
  cases p <;> rfl

theorem accesses_push (q : Rp2) (s : State) :
    accesses (.push q) s = [.write (s.sp - 2), .write (s.sp - 2 + 1)] := by
  cases q <;> rfl

theorem accesses_pop (q : Rp2) (s : State) : accesses (.pop q) s = [.read s.sp, .read (s.sp + 1)] := by
  cases q <;> rfl

theorem accesses_jrCond (cc : Cond) (e : Byte) (s : State) : accesses (.jrCond cc e) s = [] := by
  cases cc <;> rfl

theorem accesses_jpCond (cc : Cond) (nn : Word) (s : State) : accesses (.jpCond cc nn) s = [] := by
  cases cc <;> rfl

theorem accesses_callCond (cc : Cond) (nn : Word) (s : State) :
    accesses (.callCond cc nn) s = if condHolds cc s.f then [.write (s.sp - 2), .write (s.sp - 2 + 1)] else [] := by
  cases cc <;> rfl

theorem accesses_retCond (cc : Cond) (s : State) :
    accesses (.retCond cc) s = if condHolds cc s.f then [.read s.sp, .read (s.sp + 1)] else [] := by
  cases cc <;> rfl

theorem accesses_rst (y : Octal) (s : State) :
    accesses (.rst y) s = [.write (s.sp - 2), .write (s.sp - 2 + 1)] := by
  cases y <;> rfl

theorem accesses_illegal (i : Instr) (s : State) (h : i.isIllegal = true) : accesses i s = [] := by
  cases i <;> first | rfl | exact absurd h Bool.false_ne_true

/-! Every instruction -/

/-- The instruction answers a next state, whose bus has made exactly the accesses its rule lists. -/
theorem exec_makes_accesses (i : Instr) (s : State) : ∃ t, exec i s = .next t ∧ s.bus.Makes (accesses i s) t.bus := by
  induction i using Instr.byFamily with
  | load y z =>
    rw [exec_load, accesses_load]
    split
    · exact ⟨_, rfl, .nothing _⟩
    · exact ⟨_, rfl, s.updateLoc_makes _ _ _⟩
  | alu op m =>
    rw [exec_alu, accesses_alu]
    exact ⟨_, rfl, by simpa using s.afterLocRead_makes _⟩
  | shift op m =>
    rw [exec_shift, accesses_shift]
    exact ⟨_, rfl, s.updateLoc_makes _ _ _⟩
  | bit b m =>
    rw [exec_bit, accesses_bit]
    exact ⟨_, rfl, s.afterLocRead_makes _⟩
  | res b m =>
    rw [exec_res, accesses_res]
    exact ⟨_, rfl, s.updateLoc_makes _ _ _⟩
  | set b m =>
    rw [exec_set, accesses_set]
    exact ⟨_, rfl, s.updateLoc_makes _ _ _⟩
  | aluImm op n =>
    rw [exec_aluImm, accesses_aluImm]
    exact ⟨_, rfl, by simpa using Bus.Makes.nothing s.bus⟩
  | inc m =>
    rw [exec_inc, accesses_inc]
    exact ⟨_, rfl, s.updateLoc_makes _ _ _⟩
  | dec m =>
    rw [exec_dec, accesses_dec]
    exact ⟨_, rfl, s.updateLoc_makes _ _ _⟩
  | loadImm m n =>
    rw [exec_loadImm, accesses_loadImm]
    exact ⟨_, rfl, s.writeLoc_makes _ _⟩
  | loadRp p nn =>
    rw [exec_loadRp, accesses_loadRp]
    exact ⟨_, rfl, by simpa using Bus.Makes.nothing s.bus⟩
  | addHl p =>
    rw [exec_addHl, accesses_addHl]
    exact ⟨_, rfl, .nothing _⟩
  | incRp p =>
    rw [exec_incRp, accesses_incRp]
    exact ⟨_, rfl, by simpa using Bus.Makes.nothing s.bus⟩
  | decRp p =>
    rw [exec_decRp, accesses_decRp]
    exact ⟨_, rfl, by simpa using Bus.Makes.nothing s.bus⟩
  | storeInd p =>
    rw [exec_storeInd, accesses_storeInd]
    exact ⟨_, rfl, by simpa using s.busWrite_makes _ s.a⟩
  | loadInd p =>
    rw [exec_loadInd, accesses_loadInd]
    exact ⟨_, rfl, by simpa using s.afterRead_makes _⟩
  | push q =>
    rw [exec_push, accesses_push]
    exact ⟨_, rfl, s.push16_makes _⟩
  | pop q =>
    rw [exec_pop, accesses_pop]
    exact ⟨_, rfl, by simpa using s.pop16_makes⟩
  | jrCond cc e =>
    rw [exec_jrCond, accesses_jrCond]
    exact ⟨_, rfl, by split <;> exact .nothing _⟩
  | jpCond cc nn =>
    rw [exec_jpCond, accesses_jpCond]
    exact ⟨_, rfl, by split <;> exact .nothing _⟩
  | callCond cc nn =>
    rw [exec_callCond, accesses_callCond]
    refine ⟨_, rfl, ?_⟩
    split
    · exact s.push16_makes _
    · exact .nothing _
  | retCond cc =>
    rw [exec_retCond, accesses_retCond]
    refine ⟨_, rfl, ?_⟩
    split
    · exact s.pop16_makes
    · exact .nothing _
  | rst y =>
    rw [exec_rst, accesses_rst]
    exact ⟨_, rfl, s.push16_makes _⟩
  | illegal i h =>
    rw [exec_illegal i s h, accesses_illegal i s h]
    exact ⟨_, rfl, .nothing _⟩
  | callN16 nn => exact ⟨_, rfl, s.push16_makes _⟩
  | ret | reti => exact ⟨_, rfl, s.pop16_makes⟩
  | ldAtN16Sp nn => exact ⟨_, rfl, s.busWrite16_makes nn _⟩
  | ldhAtN8A | ldAtCA | ldAtN16A => exact ⟨_, rfl, s.busWrite_makes _ _⟩
  | ldhAAtN8 | ldAAtC | ldAAtN16 => exact ⟨_, rfl, s.afterRead_makes _⟩
  | nop | stop | rlca | rrca | rla | rra | daa | cpl | scf | ccf | jrE8 | jpN16 | jpHl | addSpE8 | ldHlSpE8 | ldSpHl | di
  | ei => exact ⟨_, rfl, .nothing _⟩

/-- Settles O47, by family of instructions, each family's accesses composed from the rules of the bus operations. -/
theorem instructionsMakeExactlyTheirAccesses : Obligations.InstructionsMakeExactlyTheirAccesses := by
  unfold Obligations.InstructionsMakeExactlyTheirAccesses
  intro i s
  obtain ⟨t, hexec, made, hcalls, hmade, hanswers⟩ := exec_makes_accesses i s
  exact ⟨t, made, hexec, hcalls, hmade, hanswers⟩

end Sys2Proof.Machine
end

section
/-! The half carry as a bit of the operands and the result (R119), and Z as a test of the result (R117). -/

namespace Sys2Proof.Machine

/-- R119, for every width and every bit: the carry into a bit of a sum is the exclusive or of the operands' and the
sum's bits there. -/
theorem carry_into_bit {w i : Nat} (hi : i < w) (x y : BitVec w) (c : Bool) :
    (x ^^^ y ^^^ (x + y + BitVec.setWidth w (BitVec.ofBool c))).getLsbD i =
      decide (2 ^ i ≤ x.toNat % 2 ^ i + y.toNat % 2 ^ i + c.toNat) := by
  have hcarry : BitVec.carry i x y c = decide (2 ^ i ≤ x.toNat % 2 ^ i + y.toNat % 2 ^ i + c.toNat) := rfl
  simp only [BitVec.getLsbD_xor, BitVec.getLsbD_add_add_bool hi, hcarry]
  cases x.getLsbD i <;> cases y.getLsbD i <;> simp

/-- The same where nothing is carried into bit 0. -/
theorem carry_into_bit_of_add {w i : Nat} (hi : i < w) (x y : BitVec w) :
    (x ^^^ y ^^^ (x + y)).getLsbD i = decide (2 ^ i ≤ x.toNat % 2 ^ i + y.toNat % 2 ^ i) := by
  simpa using carry_into_bit hi x y false

theorem add8_value (a b : Byte) (c : Bool) :
    (add8 a b c).value = a + b + BitVec.setWidth 8 (BitVec.ofBool c) := by
  apply BitVec.eq_of_toNat_eq
  cases c <;> simp [add8]

/-- R601: the difference, the operand and the borrow add up to A again. -/
theorem sub8_value_add (a b : Byte) (c : Bool) :
    (sub8 a b c).value + b + BitVec.setWidth 8 (BitVec.ofBool c) = a := by
  apply BitVec.eq_of_toNat_eq
  have ha := a.isLt
  cases c <;> simp [sub8, BitVec.toNat_ofInt] <;> omega

/-- The low nibbles of the difference, the operand and the borrow carry exactly where the subtraction borrows. -/
theorem sub8_halfBorrow (a b : Byte) (c : Bool) :
    (sub8 a b c).flags.h = decide (16 ≤ (sub8 a b c).value.toNat % 16 + b.toNat % 16 + c.toNat) := by
  have ha := a.isLt
  cases c <;> simp [sub8, BitVec.toNat_ofInt] <;> omega

theorem add8_halfCarry (a b : Byte) (c : Bool) :
    (add8 a b c).flags.h = (a ^^^ b ^^^ (add8 a b c).value).getLsbD 4 := by
  rw [add8_value, carry_into_bit (by decide)]
  rfl

theorem sub8_halfCarry (a b : Byte) (c : Bool) :
    (sub8 a b c).flags.h = (a ^^^ b ^^^ (sub8 a b c).value).getLsbD 4 := by
  have hsum := carry_into_bit (i := 4) (by decide) (sub8 a b c).value b c
  have hxor : (sub8 a b c).value ^^^ b ^^^ a = a ^^^ b ^^^ (sub8 a b c).value := by ac_rfl
  rw [sub8_value_add, hxor] at hsum
  exact (sub8_halfBorrow a b c).trans hsum.symm

/-- R618: INC is the addition of 1, for its value and for H. -/
theorem inc8_eq_add8 (v : Byte) (f : Flags) :
    (inc8 v f).value = (add8 v 0x01#8 false).value ∧ (inc8 v f).flags.h = (add8 v 0x01#8 false).flags.h := by
  refine ⟨by simp [inc8, add8_value], ?_⟩
  change (v.toNat % 16 == 15) = decide (15 < v.toNat % 16 + 1)
  rw [Bool.beq_eq_decide_eq, decide_eq_decide]
  omega

/-- R619: DEC is the subtraction of 1, for its value and for H. -/
theorem dec8_eq_sub8 (v : Byte) (f : Flags) :
    (dec8 v f).value = (sub8 v 0x01#8 false).value ∧ (dec8 v f).flags.h = (sub8 v 0x01#8 false).flags.h := by
  constructor
  · have hsum := sub8_value_add v 0x01#8 false
    exact BitVec.sub_eq_iff_eq_add.mpr (by simpa using hsum.symm)
  · simp [dec8, sub8, Bool.beq_eq_decide_eq]

/-- R800: the displacement has the same low byte as its sign extension, so the same low nibble. -/
theorem sext16_toNat_mod_16 (e : Byte) : (sext16 e).toNat % 16 = e.toNat % 16 := by
  rw [sext16_toNat]
  split <;> omega

theorem addSpE16_halfCarry (sp : Word) (e : Byte) :
    (addSpE16 sp e).flags.h = (sp ^^^ sext16 e ^^^ (addSpE16 sp e).value).getLsbD 4 := by
  have hcarry := carry_into_bit_of_add (i := 4) (by decide) sp (sext16 e)
  rw [show 2 ^ 4 = 16 from rfl, sext16_toNat_mod_16] at hcarry
  exact hcarry.symm

theorem addHl16_halfCarry (hl v : Word) (f : Flags) :
    (addHl16 hl v f).flags.h = (hl ^^^ v ^^^ (addHl16 hl v f).value).getLsbD 12 := by
  have hvalue : (addHl16 hl v f).value = hl + v := (BitVec.ofNat_add_ofNat _ _).symm.trans (by simp)
  rw [hvalue, carry_into_bit_of_add (by decide)]
  rfl

/-- Settles O28: H is the carry into bit 4 or 12, or the borrow from it, and so the exclusive or of the bits there. -/
theorem halfCarryIsTheXorBit : Obligations.HalfCarryIsTheXorBit := by
  unfold Obligations.HalfCarryIsTheXorBit
  refine ⟨add8_halfCarry, sub8_halfCarry, fun v f => ?_, fun v f => ?_, addSpE16_halfCarry, addHl16_halfCarry⟩
  · obtain ⟨hvalue, hh⟩ := inc8_eq_add8 v f
    rw [hvalue, hh, add8_halfCarry]
  · obtain ⟨hvalue, hh⟩ := dec8_eq_sub8 v f
    rw [hvalue, hh, sub8_halfCarry]

/-! Z as a test of the result -/

theorem ofNat_beq_zero (n : Nat) : (n % 256 == 0) = (BitVec.ofNat 8 n == 0x00#8) := by
  rw [Bool.eq_iff_iff]
  simp [← BitVec.toNat_inj]

theorem ofInt_beq_zero (n : Int) : (n % 256 == 0) = (BitVec.ofInt 8 n == 0x00#8) := by
  rw [Bool.eq_iff_iff, beq_iff_eq, beq_iff_eq, ← BitVec.toNat_inj, BitVec.toNat_ofInt]
  change n % 256 = 0 ↔ (n % 256).toNat = 0
  omega

/-- R117 of the accumulator operations, CP included: Z is set iff the byte computed is 0. -/
theorem aluCompute_z (op : AluOp) (a v : Byte) (c : Bool) :
    (aluCompute op a v c).flags.z = ((aluCompute op a v c).value == 0x00#8) := by
  cases op with
  | add | adc => exact ofNat_beq_zero _
  | sub | sbc | cp => exact ofInt_beq_zero _
  | and | xor | or => rfl

theorem daa8_z (a : Byte) (f : Flags) : (daa8 a f).flags.z = ((daa8 a f).value == 0x00#8) := by
  unfold daa8
  split
  · exact ofInt_beq_zero _
  · exact ofNat_beq_zero _

/-- An accumulator operation but CP leaves in A the value whose Z it sets. -/
theorem aluApply_z {op : AluOp} (hop : op ≠ .cp) (v acc : Byte) (f : Flags) (s : State) :
    (aluApply op v acc f s).f.z = ((aluApply op v acc f s).a == 0x00#8) := by
  cases op with
  | cp => exact absurd rfl hop
  | _ => exact aluCompute_z _ acc v f.c

/-- Settles O27: both forms of an accumulator operation end in `aluApply`, and DAA in `daa8`. -/
theorem zeroFlagReflectsTheResultInA : Obligations.ZeroFlagReflectsTheResultInA := by
  unfold Obligations.ZeroFlagReflectsTheResultInA
  rintro i s (rfl | ⟨op, hop, ⟨m, rfl⟩ | ⟨n, rfl⟩⟩)
  · exact ⟨_, rfl, daa8_z s.a s.f⟩
  · exact ⟨_, exec_alu op m s, aluApply_z hop _ _ _ _⟩
  · exact ⟨_, exec_aluImm op n s, aluApply_z hop _ _ _ _⟩

end Sys2Proof.Machine
end

section
/-! The views of the flags as a byte and of two registers as a pair (R101, R102). -/

namespace Sys2Proof.Machine

theorem Flags.toByte_eq_append (f : Flags) :
    f.toByte = BitVec.ofBool f.z ++ BitVec.ofBool f.n ++ BitVec.ofBool f.h ++ BitVec.ofBool f.c ++ 0b0000#4 := by
  obtain ⟨z, n, h, c⟩ := f
  revert z n h c
  decide

@[simp] theorem Flags.ofByte_toByte (f : Flags) : Flags.ofByte f.toByte = f := by
  obtain ⟨z, n, h, c⟩ := f
  revert z n h c
  decide

@[simp] theorem Flags.toByte_ofByte (v : Byte) : (Flags.ofByte v).toByte = v &&& 0xF0#8 := by
  revert v
  decide

/-- Masking the low four bits of a word masks those of its low byte. -/
theorem concat_high_maskedLow (v : Word) : concat (highByte v) (lowByte v &&& 0xF0#8) = v &&& 0xFFF0#16 := by
  calc concat (highByte v) (lowByte v &&& 0xF0#8)
      = (highByte v &&& BitVec.allOnes 8) ++ (lowByte v &&& 0xF0#8) := by rw [BitVec.and_allOnes]; rfl
    _ = concat (highByte v) (lowByte v) &&& BitVec.allOnes 8 ++ 0xF0#8 := BitVec.and_append.symm
    _ = v &&& 0xFFF0#16 := by rw [concat_high_low]; rfl

@[simp] theorem State.rp2_setRp2 (s : State) (q : Rp2) (v : Word) :
    (s.setRp2 q v).rp2 q = if q = .af then v &&& 0xFFF0#16 else v := by
  cases q with
  | af => simp [State.setRp2, State.rp2, concat_high_maskedLow]
  | _ => exact concat_high_low v

/-- Settles O59: the flag byte by its eight bits, and a pair by its two halves. -/
theorem flagByteAndPairViews : Obligations.FlagByteAndPairViews := by
  unfold Obligations.FlagByteAndPairViews
  refine ⟨fun f => ⟨f.toByte_eq_append, f.ofByte_toByte⟩, fun v => ⟨rfl, Flags.toByte_ofByte v⟩, fun s v => ?_⟩
  exact ⟨rfl, rfl, rfl, rfl, rfl, rfl, rfl, rfl, fun q => s.rp2_setRp2 q v⟩

end Sys2Proof.Machine
end

section
/-! What a reset makes of a state (R130, R131, R1300). -/

namespace Sys2Proof.Machine

theorem step_of_reset {s : State} {rest : List OutsideEvent} (h : s.events = .reset :: rest) :
    step s = .next (State.hostReset Config.resetProfile { s with events := rest }) := by
  simp only [step, h]

/-- Settles O54, by profile: each value of the table is a literal. -/
theorem resetMeetsTheInvariants : Obligations.ResetMeetsTheInvariants := by
  unfold Obligations.ResetMeetsTheInvariants
  intro p
  cases p <;> exact ⟨rfl, rfl, rfl, fun _ => rfl⟩

/-- Settles O55: the two columns of R130, and the branch of the step that takes a reset. -/
theorem resetGivesTheTableOfValues : Obligations.ResetGivesTheTableOfValues := by
  unfold Obligations.ResetGivesTheTableOfValues
  exact ⟨fun _ => rfl, fun _ => rfl, fun _ _ h => step_of_reset h⟩

end Sys2Proof.Machine
end

section
/-! What an instruction leaves unchanged: one rule per operation on the state, chained in the order of the operations, and
one case per family of instructions. -/

namespace Sys2Proof

/-- The registers that a write to an `r8` operand reaches: none for (HL). -/
def R8.written : R8 → List Reg8
  | .b => [.b]
  | .c => [.c]
  | .d => [.d]
  | .e => [.e]
  | .h => [.h]
  | .l => [.l]
  | .atHl => []
  | .a => [.a]

/-- The registers that a write to a pair reaches: none for SP, which is no 8-bit register. -/
def Rp.written : Rp → List Reg8
  | .bc => [.b, .c]
  | .de => [.d, .e]
  | .hl => [.h, .l]
  | .sp => []

/-- The 8-bit registers that a pop into a pair reaches. -/
def Rp2.written : Rp2 → List Reg8
  | .bc => [.b, .c]
  | .de => [.d, .e]
  | .hl => [.h, .l]
  | .af => [.a]

/-- The registers that the side effect of an indirect-pair operand reaches (R113). -/
def Ind.written : Ind → List Reg8
  | .bc | .de => []
  | .hlInc | .hlDec => [.h, .l]

/-- The registers that an accumulator operation reaches: CP discards its result (R616). -/
def AluOp.written : AluOp → List Reg8
  | .cp => []
  | _ => [.a]

end Sys2Proof

namespace Sys2Proof.Machine

/-! The effect of each family -/

theorem effect_load (y z : R8) :
    effect (.load y z) = if y = .atHl ∧ z = .atHl then { halted := true } else { regs := y.written } := by
  cases y <;> cases z <;> rfl

theorem effect_alu (op : AluOp) (m : R8) :
    effect (.alu op m) = { regs := op.written, z := true, n := true, h := true, c := true } := by
  cases op <;> cases m <;> rfl

theorem effect_aluImm (op : AluOp) (n : Byte) :
    effect (.aluImm op n) = { regs := op.written, z := true, n := true, h := true, c := true } := by
  cases op <;> rfl

theorem effect_shift (op : ShiftOp) (m : R8) :
    effect (.shift op m) = { regs := m.written, z := true, n := true, h := true, c := true } := by
  cases op <;> cases m <;> rfl

theorem effect_bit (b : Octal) (m : R8) : effect (.bit b m) = { z := true, n := true, h := true } := by
  cases b <;> cases m <;> rfl

theorem effect_res (b : Octal) (m : R8) : effect (.res b m) = { regs := m.written } := by
  cases b <;> cases m <;> rfl

theorem effect_set (b : Octal) (m : R8) : effect (.set b m) = { regs := m.written } := by
  cases b <;> cases m <;> rfl

theorem effect_inc (m : R8) : effect (.inc m) = { regs := m.written, z := true, n := true, h := true } := by
  cases m <;> rfl

theorem effect_dec (m : R8) : effect (.dec m) = { regs := m.written, z := true, n := true, h := true } := by
  cases m <;> rfl

theorem effect_loadImm (m : R8) (n : Byte) : effect (.loadImm m n) = { regs := m.written } := by
  cases m <;> rfl

theorem effect_loadRp (p : Rp) (nn : Word) : effect (.loadRp p nn) = { regs := p.written, sp := p == .sp } := by
  cases p <;> rfl

theorem effect_incRp (p : Rp) : effect (.incRp p) = { regs := p.written, sp := p == .sp } := by
  cases p <;> rfl

theorem effect_decRp (p : Rp) : effect (.decRp p) = { regs := p.written, sp := p == .sp } := by
  cases p <;> rfl

theorem effect_addHl (p : Rp) : effect (.addHl p) = { regs := [.h, .l], n := true, h := true, c := true } := by
  cases p <;> rfl

theorem effect_storeInd (p : Ind) : effect (.storeInd p) = { regs := p.written } := by
  cases p <;> rfl

theorem effect_loadInd (p : Ind) : effect (.loadInd p) = { regs := .a :: p.written } := by
  cases p <;> rfl

theorem effect_push (q : Rp2) : effect (.push q) = { sp := true } := by
  cases q <;> rfl

theorem effect_pop (q : Rp2) :
    effect (.pop q) =
      { regs := q.written, z := q == .af, n := q == .af, h := q == .af, c := q == .af, sp := true } := by
  cases q <;> rfl

theorem effect_jrCond (cc : Cond) (e : Byte) : effect (.jrCond cc e) = { pc := true } := by
  cases cc <;> rfl

theorem effect_jpCond (cc : Cond) (nn : Word) : effect (.jpCond cc nn) = { pc := true } := by
  cases cc <;> rfl

theorem effect_callCond (cc : Cond) (nn : Word) : effect (.callCond cc nn) = { sp := true, pc := true } := by
  cases cc <;> rfl

theorem effect_retCond (cc : Cond) : effect (.retCond cc) = { sp := true, pc := true } := by
  cases cc <;> rfl

theorem effect_rst (y : Octal) : effect (.rst y) = { sp := true, pc := true } := by
  cases y <;> rfl

theorem effect_illegal (i : Instr) (h : i.isIllegal = true) : effect i = { stopped := true } := by
  cases i with
  | illegalD3 | illegalDB | illegalDD | illegalE3 | illegalE4 | illegalEB | illegalEC | illegalED | illegalF4
  | illegalFC | illegalFD => rfl
  | _ => cases h

/-! One rule per operation -/

/-- The flags go from `f` to `g` and change only where the effect lets them. -/
structure Effect.AllowsFlags (e : Effect) (f g : Flags) : Prop where
  z : e.z = false → g.z = f.z
  n : e.n = false → g.n = f.n
  h : e.h = false → g.h = f.h
  c : e.c = false → g.c = f.c

/-- The state goes from `s` to `t` and changes, the bus aside, only where the effect lets it. -/
structure Effect.Allows (e : Effect) (s t : State) : Prop where
  regs : ∀ r, r ∉ e.regs → t.reg r = s.reg r
  flags : e.AllowsFlags s.f t.f
  sp : e.sp = false → t.sp = s.sp
  pc : e.pc = false → t.pc = s.pc
  ime : e.ime = false → t.ime = s.ime
  halted : e.halted = false → t.halted = s.halted
  stopped : e.stopped = false → t.stopped = s.stopped
  events : t.events = s.events

namespace Effect.Allows

variable {e : Effect} {s t : State}

theorem refl (e : Effect) (s : State) : e.Allows s s where
  regs _ _ := rfl
  flags := ⟨fun _ => rfl, fun _ => rfl, fun _ => rfl, fun _ => rfl⟩
  sp _ := rfl
  pc _ := rfl
  ime _ := rfl
  halted _ := rfl
  stopped _ := rfl
  events := rfl

theorem setBus (hst : e.Allows s t) (bus : Bus) : e.Allows s { t with bus := bus } := { hst with }

theorem setFlags (hst : e.Allows s t) {f : Flags} (hf : e.AllowsFlags s.f f) : e.Allows s { t with f := f } :=
  { hst with flags := hf }

theorem setSp (hst : e.Allows s t) (v : Word) (h : e.sp = true) : e.Allows s { t with sp := v } :=
  { hst with sp := fun hf => nomatch h.symm.trans hf }

theorem setPc (hst : e.Allows s t) (v : Word) (h : e.pc = true) : e.Allows s { t with pc := v } :=
  { hst with pc := fun hf => nomatch h.symm.trans hf }

theorem setIme (hst : e.Allows s t) (v : Bool) (h : e.ime = true) : e.Allows s { t with ime := v } :=
  { hst with ime := fun hf => nomatch h.symm.trans hf }

theorem setHalted (hst : e.Allows s t) (v : Bool) (h : e.halted = true) : e.Allows s { t with halted := v } :=
  { hst with halted := fun hf => nomatch h.symm.trans hf }

theorem setStopped (hst : e.Allows s t) (v : Bool) (h : e.stopped = true) : e.Allows s { t with stopped := v } :=
  { hst with stopped := fun hf => nomatch h.symm.trans hf }

theorem setReg (hst : e.Allows s t) (r : Reg8) (v : Byte) (h : r ∈ e.regs) : e.Allows s (t.setReg r v) where
  regs r' hr' := (t.setReg_reg_other r r' v (fun heq => hr' (heq ▸ h))).trans (hst.regs r' hr')
  flags := by simpa using hst.flags
  sp := by simpa using hst.sp
  pc := by simpa using hst.pc
  ime := by simpa using hst.ime
  halted := by simpa using hst.halted
  stopped := by simpa using hst.stopped
  events := by simpa using hst.events

theorem afterLocRead (hst : e.Allows s t) (loc : Loc) : e.Allows s (t.afterLocRead loc) := by
  obtain ⟨bus, -, hread⟩ := t.afterLocRead_frame loc
  exact hread ▸ hst.setBus bus

/-- The location of an `r8` operand, resolved in any state, is written through to no other register. -/
theorem writeLoc (hst : e.Allows s t) (u : State) (m : R8) (v : Byte) (h : m.written ⊆ e.regs) :
    e.Allows s (t.writeLoc (u.resolve m) v) := by
  cases m with
  | atHl => exact hst.setBus _
  | _ => exact hst.setReg _ v (h (List.mem_singleton_self _))

/-- R102: a write to a pair is a write to its two registers. -/
theorem setPair (hst : e.Allows s t) (hi lo : Reg8) (v : Word) (h : [hi, lo] ⊆ e.regs) :
    e.Allows s ((t.setReg hi (highByte v)).setReg lo (lowByte v)) :=
  (hst.setReg hi _ (h (by simp))).setReg lo _ (h (by simp))

theorem setRp (hst : e.Allows s t) (p : Rp) (v : Word) (hregs : p.written ⊆ e.regs) (hsp : e.sp = (p == .sp)) :
    e.Allows s (t.setRp p v) := by
  cases p with
  | bc => exact hst.setPair .b .c v hregs
  | de => exact hst.setPair .d .e v hregs
  | hl => exact hst.setPair .h .l v hregs
  | sp => exact hst.setSp v hsp

/-- POP AF reaches A and every flag; the other pairs reach two registers and no flag. -/
theorem setRp2 (hst : e.Allows s t) (q : Rp2) (v : Word) (hregs : q.written ⊆ e.regs)
    (hflags : q = .af → ∀ f g, e.AllowsFlags f g) : e.Allows s (t.setRp2 q v) := by
  cases q with
  | bc => exact hst.setPair .b .c v hregs
  | de => exact hst.setPair .d .e v hregs
  | hl => exact hst.setPair .h .l v hregs
  | af => exact (hst.setReg .a (highByte v) (hregs (List.mem_singleton_self _))).setFlags (hflags rfl _ _)

theorem indStep (hst : e.Allows s t) (p : Ind) (h : p.written ⊆ e.regs) : e.Allows s (t.indStep p) := by
  cases p with
  | bc | de => exact hst
  | hlInc => exact hst.setPair .h .l (t.hl + 1) h
  | hlDec => exact hst.setPair .h .l (t.hl - 1) h

theorem aluApply (hst : e.Allows s t) (op : AluOp) (v acc : Byte) (f : Flags) (hregs : op.written ⊆ e.regs)
    (hflags : ∀ f g, e.AllowsFlags f g) : e.Allows s (aluApply op v acc f t) := by
  cases op with
  | cp => exact hst.setFlags (hflags _ _)
  | _ => exact (hst.setReg .a _ (hregs (List.mem_singleton_self _))).setFlags (hflags _ _)

theorem push16 (hst : e.Allows s t) (v : Word) (h : e.sp = true) : e.Allows s (t.push16 v) :=
  (hst.setSp _ h).setBus _

theorem pop16 (hst : e.Allows s t) (h : e.sp = true) : e.Allows s t.pop16.2 :=
  (hst.setBus _).setSp _ h

theorem callTo (hst : e.Allows s t) (target : Word) (hsp : e.sp = true) (hpc : e.pc = true) :
    e.Allows s (t.callTo target) :=
  (hst.push16 _ hsp).setPc _ hpc

theorem returnTo (hst : e.Allows s t) (hsp : e.sp = true) (hpc : e.pc = true) : e.Allows s t.returnTo :=
  (hst.pop16 hsp).setPc _ hpc

end Effect.Allows

theorem Effect.AllowsFlags.of_all {e : Effect} (hz : e.z = true) (hn : e.n = true) (hh : e.h = true) (hc : e.c = true)
    (f g : Flags) : e.AllowsFlags f g :=
  ⟨fun h => (nomatch hz.symm.trans h), fun h => (nomatch hn.symm.trans h), fun h => (nomatch hh.symm.trans h),
    fun h => (nomatch hc.symm.trans h)⟩

/-- R704: DAA leaves N. -/
theorem daa8_n (a : Byte) (f : Flags) : (daa8 a f).flags.n = f.n := by
  unfold daa8
  cases f.n <;> rfl

/-! Every instruction -/

/-- The instruction answers a next state, which its effect allows. -/
theorem exec_allowed (i : Instr) (s : State) : ∃ t, exec i s = .next t ∧ (effect i).Allows s t := by
  have start (e : Effect) : e.Allows s s := .refl e s
  induction i using Instr.byFamily with
  | load y z =>
    rw [exec_load, effect_load]
    split
    · exact ⟨_, rfl, (start _).setHalted true rfl⟩
    · exact ⟨_, rfl, ((start _).afterLocRead _).writeLoc s y _ (List.Subset.refl _)⟩
  | alu op m =>
    rw [exec_alu, effect_alu]
    exact ⟨_, rfl, ((start _).afterLocRead _).aluApply op _ _ _ (List.Subset.refl _) (.of_all rfl rfl rfl rfl)⟩
  | aluImm op n =>
    rw [exec_aluImm, effect_aluImm]
    exact ⟨_, rfl, (start _).aluApply op _ _ _ (List.Subset.refl _) (.of_all rfl rfl rfl rfl)⟩
  | shift op m =>
    rw [exec_shift, effect_shift]
    exact ⟨_, rfl, (((start _).afterLocRead _).writeLoc s m _ (List.Subset.refl _)).setFlags
      (.of_all rfl rfl rfl rfl _ _)⟩
  | bit b m =>
    rw [exec_bit, effect_bit]
    exact ⟨_, rfl, ((start _).afterLocRead _).setFlags ⟨nofun, nofun, nofun, fun _ => rfl⟩⟩
  | res b m =>
    rw [exec_res, effect_res]
    exact ⟨_, rfl, ((start _).afterLocRead _).writeLoc s m _ (List.Subset.refl _)⟩
  | set b m =>
    rw [exec_set, effect_set]
    exact ⟨_, rfl, ((start _).afterLocRead _).writeLoc s m _ (List.Subset.refl _)⟩
  | inc m =>
    rw [exec_inc, effect_inc]
    exact ⟨_, rfl, (((start _).afterLocRead _).writeLoc s m _ (List.Subset.refl _)).setFlags
      ⟨nofun, nofun, nofun, fun _ => rfl⟩⟩
  | dec m =>
    rw [exec_dec, effect_dec]
    exact ⟨_, rfl, (((start _).afterLocRead _).writeLoc s m _ (List.Subset.refl _)).setFlags
      ⟨nofun, nofun, nofun, fun _ => rfl⟩⟩
  | loadImm m n =>
    rw [exec_loadImm, effect_loadImm]
    exact ⟨_, rfl, (start _).writeLoc s m n (List.Subset.refl _)⟩
  | loadRp p nn =>
    rw [exec_loadRp, effect_loadRp]
    exact ⟨_, rfl, (start _).setRp p _ (List.Subset.refl _) rfl⟩
  | incRp p =>
    rw [exec_incRp, effect_incRp]
    exact ⟨_, rfl, (start _).setRp p _ (List.Subset.refl _) rfl⟩
  | decRp p =>
    rw [exec_decRp, effect_decRp]
    exact ⟨_, rfl, (start _).setRp p _ (List.Subset.refl _) rfl⟩
  | addHl p =>
    rw [exec_addHl, effect_addHl]
    exact ⟨_, rfl, ((start _).setRp .hl _ (List.Subset.refl _) rfl).setFlags ⟨fun _ => rfl, nofun, nofun, nofun⟩⟩
  | storeInd p =>
    rw [exec_storeInd, effect_storeInd]
    exact ⟨_, rfl, ((start _).setBus _).indStep p (List.Subset.refl _)⟩
  | loadInd p =>
    rw [exec_loadInd, effect_loadInd]
    exact ⟨_, rfl, (((start _).setBus _).setReg .a _ List.mem_cons_self).indStep p (List.subset_cons_self _ _)⟩
  | push q =>
    rw [exec_push, effect_push]
    exact ⟨_, rfl, (start _).push16 _ rfl⟩
  | pop q =>
    rw [exec_pop, effect_pop]
    refine ⟨_, rfl, ((start _).pop16 rfl).setRp2 q _ (List.Subset.refl _) ?_⟩
    rintro rfl
    exact .of_all rfl rfl rfl rfl
  | jrCond cc e =>
    rw [exec_jrCond, effect_jrCond]
    refine ⟨_, rfl, ?_⟩
    split
    · exact (start _).setPc _ rfl
    · exact start _
  | jpCond cc nn =>
    rw [exec_jpCond, effect_jpCond]
    refine ⟨_, rfl, ?_⟩
    split
    · exact (start _).setPc _ rfl
    · exact start _
  | callCond cc nn =>
    rw [exec_callCond, effect_callCond]
    refine ⟨_, rfl, ?_⟩
    split
    · exact (start _).callTo _ rfl rfl
    · exact start _
  | retCond cc =>
    rw [exec_retCond, effect_retCond]
    refine ⟨_, rfl, ?_⟩
    split
    · exact (start _).returnTo rfl rfl
    · exact start _
  | rst y =>
    rw [exec_rst, effect_rst]
    exact ⟨_, rfl, (start _).callTo _ rfl rfl⟩
  | illegal i h =>
    rw [exec_illegal i s h, effect_illegal i h]
    exact ⟨_, rfl, (start _).setStopped true rfl⟩
  | nop => exact ⟨_, rfl, start _⟩
  | stop => exact ⟨_, rfl, (start _).setStopped true rfl⟩
  | rlca | rrca | rla | rra =>
    exact ⟨_, rfl, ((start _).setReg .a _ (List.mem_singleton_self _)).setFlags (.of_all rfl rfl rfl rfl _ _)⟩
  | daa =>
    exact ⟨_, rfl, ((start _).setReg .a _ (List.mem_singleton_self _)).setFlags
      ⟨nofun, fun _ => daa8_n s.a s.f, nofun, nofun⟩⟩
  | cpl =>
    exact ⟨_, rfl, ((start _).setReg .a _ (List.mem_singleton_self _)).setFlags
      ⟨fun _ => rfl, nofun, nofun, fun _ => rfl⟩⟩
  | scf | ccf => exact ⟨_, rfl, (start _).setFlags ⟨fun _ => rfl, nofun, nofun, nofun⟩⟩
  | addSpE8 e => exact ⟨_, rfl, ((start _).setSp (addSpE16 s.sp e).value rfl).setFlags (.of_all rfl rfl rfl rfl _ _)⟩
  | ldHlSpE8 e =>
    exact ⟨_, rfl, ((start _).setRp .hl _ (List.Subset.refl _) rfl).setFlags (.of_all rfl rfl rfl rfl _ _)⟩
  | ldSpHl => exact ⟨_, rfl, (start _).setSp _ rfl⟩
  | jrE8 | jpN16 | jpHl => exact ⟨_, rfl, (start _).setPc _ rfl⟩
  | callN16 nn => exact ⟨_, rfl, (start _).callTo nn rfl rfl⟩
  | ret => exact ⟨_, rfl, (start _).returnTo rfl rfl⟩
  | reti => exact ⟨_, rfl, ((start _).returnTo rfl rfl).setIme true rfl⟩
  | di | ei => exact ⟨_, rfl, (start _).setIme _ rfl⟩
  | ldAtN16Sp | ldhAtN8A | ldAtCA | ldAtN16A => exact ⟨_, rfl, (start _).setBus _⟩
  | ldhAAtN8 | ldAAtC | ldAAtN16 =>
    exact ⟨_, rfl, ((start _).setBus _).setReg .a _ (List.mem_singleton_self _)⟩

/-- Settles O45: `Effect.Allows` is the frame it asks for. -/
theorem instructionsChangeOnlyWhatTheirRuleNames : Obligations.InstructionsChangeOnlyWhatTheirRuleNames := by
  unfold Obligations.InstructionsChangeOnlyWhatTheirRuleNames
  intro i s
  obtain ⟨t, hexec, hregs, ⟨hz, hn, hh, hc⟩, hsp, hpc, hime, hhalted, hstopped, hevents⟩ := exec_allowed i s
  exact ⟨t, hexec, hregs, hz, hn, hh, hc, hsp, hpc, hime, hhalted, hstopped, hevents⟩

end Sys2Proof.Machine
end

section
/-! Who writes the CPU state (R104), read off the effects; and that IME, N and H are read by no other instruction than
the two of R121: the run from a state with other values of the three is the same run. -/

namespace Sys2Proof.Machine

theorem effect_ime_iff (i : Instr) : (effect i).ime = true ↔ i = .di ∨ i = .ei ∨ i = .reti := by
  refine ⟨fun h => ?_, ?_⟩
  · cases i with
    | di | ei | reti => simp
    | _ => cases h
  · rintro (rfl | rfl | rfl) <;> rfl

theorem eq_halt_of_effect_halted {i : Instr} (h : (effect i).halted = true) : i = .halt := by
  cases i with
  | halt => rfl
  | _ => cases h

theorem stop_or_illegal_of_effect_stopped {i : Instr} (h : (effect i).stopped = true) :
    (∃ b, i = .stop b) ∨ i.isIllegal = true := by
  cases i with
  | stop b => exact .inl ⟨b, rfl⟩
  | illegalD3 | illegalDB | illegalDD | illegalE3 | illegalE4 | illegalEB | illegalEC | illegalED | illegalF4
  | illegalFC | illegalFD => exact .inr rfl
  | _ => cases h

/-- The state with other values of IME, N and H. -/
def State.withUnread (s : State) (ime n h : Bool) : State := { s with ime := ime, f := { s.f with n := n, h := h } }

/-- What an instruction with this effect makes of other values of IME, N and H at its start, where it leaves `t`: it
puts its own over those its effect names, and the others stay. -/
def Effect.overUnread (e : Effect) (t : State) (ime n h : Bool) : State :=
  t.withUnread (if e.ime then t.ime else ime) (if e.n then t.f.n else n) (if e.h then t.f.h else h)

theorem condHolds_withUnread (cc : Cond) (s : State) (ime n h : Bool) :
    condHolds cc (s.withUnread ime n h).f = condHolds cc s.f := by
  cases cc <;> rfl

theorem aluApply_withUnread (op : AluOp) (v : Byte) (s : State) (ime n h : Bool) :
    aluApply op v s.a (s.withUnread ime n h).f (s.withUnread ime n h) =
      (aluApply op v s.a s.f s).withUnread ime (aluApply op v s.a s.f s).f.n (aluApply op v s.a s.f s).f.h := by
  cases op <;> rfl

/-- R104, R121: but for DAA and PUSH AF an instruction reads none of IME, N and H. Once its operand's form is known the
two runs are the same term, field by field. -/
theorem exec_withUnread {i : Instr} (s : State) (ime n h : Bool) (hdaa : i ≠ .daa) (hpush : i ≠ .pushAf) :
    ∃ t, exec i s = .next t ∧ exec i (s.withUnread ime n h) = .next ((effect i).overUnread t ime n h) := by
  induction i using Instr.byFamily with
  | load y z =>
    simp only [exec_load, effect_load]
    split
    · exact ⟨_, rfl, rfl⟩
    · cases y <;> cases z <;> exact ⟨_, rfl, rfl⟩
  | alu op m =>
    simp only [exec_alu, effect_alu]
    cases m with
    | atHl => exact ⟨_, rfl, congrArg _ (aluApply_withUnread op (s.answer s.hl) (s.afterRead s.hl) ime n h)⟩
    | _ => exact ⟨_, rfl, congrArg _ (aluApply_withUnread op _ s ime n h)⟩
  | aluImm op v =>
    simp only [exec_aluImm, effect_aluImm]
    exact ⟨_, rfl, congrArg _ (aluApply_withUnread op v s ime n h)⟩
  | shift op m =>
    simp only [exec_shift, effect_shift]
    cases m <;> exact ⟨_, rfl, rfl⟩
  | bit b m =>
    simp only [exec_bit, effect_bit]
    cases m <;> exact ⟨_, rfl, rfl⟩
  | res b m =>
    simp only [exec_res, effect_res]
    cases m <;> exact ⟨_, rfl, rfl⟩
  | set b m =>
    simp only [exec_set, effect_set]
    cases m <;> exact ⟨_, rfl, rfl⟩
  | inc m | dec m | loadImm m | loadRp m | incRp m | decRp m | addHl m | storeInd m | loadInd m | pop m | rst m =>
    cases m <;> exact ⟨_, rfl, rfl⟩
  | push q =>
    cases q with
    | af => exact absurd rfl hpush
    | _ => exact ⟨_, rfl, rfl⟩
  | jrCond cc e =>
    simp only [exec_jrCond, effect_jrCond, jumpRelativeIf, condHolds_withUnread]
    split <;> exact ⟨_, rfl, rfl⟩
  | jpCond cc nn =>
    simp only [exec_jpCond, effect_jpCond, jumpIf, condHolds_withUnread]
    split <;> exact ⟨_, rfl, rfl⟩
  | callCond cc nn =>
    simp only [exec_callCond, effect_callCond, callIf, condHolds_withUnread]
    split <;> exact ⟨_, rfl, rfl⟩
  | retCond cc =>
    simp only [exec_retCond, effect_retCond, returnIf, condHolds_withUnread]
    split <;> exact ⟨_, rfl, rfl⟩
  | illegal i hi =>
    simp only [exec_illegal i _ hi, effect_illegal i hi]
    exact ⟨_, rfl, rfl⟩
  | daa => exact absurd rfl hdaa
  | _ => exact ⟨_, rfl, rfl⟩

/-! A boolean `old` that becomes `new` and is kept where the effect does not name it -/

theorem eq_true_of_changed {named old new : Bool} (hkeep : named = false → new = old) (hne : new ≠ old) :
    named = true := by
  cases named with
  | true => rfl
  | false => exact absurd (hkeep rfl) hne

theorem ite_eq_of_kept {named old new : Bool} (hkeep : named = false → new = old) :
    (if named then new else old) = new := by
  cases named with
  | true => rfl
  | false => exact (hkeep rfl).symm

/-- R104: no instruction reads IME, DAA and PUSH AF included. -/
theorem exec_withIme {i : Instr} {s t : State} (v : Bool) (hexec : exec i s = .next t) :
    exec i { s with ime := v } = .next { t with ime := if (effect i).ime then t.ime else v } := by
  by_cases hdaa : i = .daa
  · subst hdaa
    cases hexec
    rfl
  by_cases hpush : i = .pushAf
  · subst hpush
    cases hexec
    rfl
  obtain ⟨t', hexec', hrun⟩ := exec_withUnread s v s.f.n s.f.h hdaa hpush
  obtain ⟨t'', hexec'', hallowed⟩ := exec_allowed i s
  cases hexec.symm.trans hexec'
  cases hexec.symm.trans hexec''
  rw [Effect.overUnread, ite_eq_of_kept hallowed.flags.n, ite_eq_of_kept hallowed.flags.h] at hrun
  exact hrun

/-- Settles O48: who may write comes from the effects, and that IME is not read from `exec_withIme`. -/
theorem cpuStateIsWrittenOnlyByItsInstructions : Obligations.CpuStateIsWrittenOnlyByItsInstructions := by
  unfold Obligations.CpuStateIsWrittenOnlyByItsInstructions
  intro i s
  obtain ⟨t, hexec, hallowed⟩ := exec_allowed i s
  refine ⟨t, hexec, fun hne => ?_, fun hne => ?_, fun hne => ?_, fun v => ?_⟩
  · exact (effect_ime_iff i).mp (eq_true_of_changed hallowed.ime hne)
  · have hhalt := eq_halt_of_effect_halted (eq_true_of_changed hallowed.halted hne)
    subst hhalt
    cases hexec
    exact ⟨rfl, rfl⟩
  · have hstop := stop_or_illegal_of_effect_stopped (eq_true_of_changed hallowed.stopped hne)
    refine ⟨hstop, ?_⟩
    rcases hstop with ⟨b, rfl⟩ | hillegal
    · cases hexec
      rfl
    · rw [exec_illegal i s hillegal] at hexec
      cases hexec
      rfl
  · simpa only [effect_ime_iff] using exec_withIme v hexec

/-- Settles O49: `exec_withUnread` with the IME the state has, which `overUnread` gives back. -/
theorem nAndHAreReadOnlyByDaaAndPushAf : Obligations.NAndHAreReadOnlyByDaaAndPushAf := by
  unfold Obligations.NAndHAreReadOnlyByDaaAndPushAf
  intro i s n h hdaa hpush
  obtain ⟨t, hexec, hrun⟩ := exec_withUnread s s.ime n h hdaa hpush
  obtain ⟨t', hexec', hallowed⟩ := exec_allowed i s
  cases hexec.symm.trans hexec'
  rw [Effect.overUnread, ite_eq_of_kept hallowed.ime] at hrun
  exact ⟨t, hexec, hrun⟩

end Sys2Proof.Machine
end

section
/-! The modes of the core over a step (R105, R300): when a step is refused, and that a tick never leaves both Halted and
Stopped set. -/

namespace Sys2Proof.Machine

/-! One branch of the tick each -/

theorem tick_of_halted_stopped (len : StopLength) {s : State} (hh : s.halted = true) (hs : s.stopped = true) :
    tick len s = .refused .haltedAndStopped := by
  simp [tick, hh, hs]

theorem tick_of_halted_ne_stopped (len : StopLength) {s : State} (h : s.halted ≠ s.stopped) : tick len s = .next s := by
  cases hh : s.halted <;> cases hs : s.stopped <;> simp_all [tick]

theorem tick_of_not_halted_not_stopped (len : StopLength) {s : State} (hh : s.halted = false) (hs : s.stopped = false) :
    tick len s = exec (s.fetchInstr len).1 (s.fetchInstr len).2 := by
  simp [tick, hh, hs]

/-- R104: an instruction that may set Halted leaves Stopped. -/
theorem effect_stopped_of_halted {i : Instr} (h : (effect i).halted = true) : (effect i).stopped = false := by
  rw [eq_halt_of_effect_halted h]
  rfl

/-- R105: an instruction run with both booleans clear does not set both. -/
theorem exec_legalMode (i : Instr) {s : State} (hh : s.halted = false) (hs : s.stopped = false) :
    ∃ t, exec i s = .next t ∧ t.legalMode = true := by
  obtain ⟨t, hexec, hallowed⟩ := exec_allowed i s
  refine ⟨t, hexec, ?_⟩
  cases hmay : (effect i).halted with
  | false => simp [State.legalMode, hallowed.halted hmay, hh]
  | true => simp [State.legalMode, hallowed.stopped (effect_stopped_of_halted hmay), hs]

/-- R105, R300: a tick of an admitted state answers a next state, an admitted one. -/
theorem tick_of_legalMode (len : StopLength) {s : State} (h : s.legalMode = true) :
    ∃ t, tick len s = .next t ∧ t.legalMode = true := by
  by_cases hmode : s.halted = s.stopped
  · have hrun : s.halted = false ∧ s.stopped = false := by simpa [State.legalMode, ← hmode] using h
    obtain ⟨hh, hs⟩ := hrun
    obtain ⟨bus, pc, hfetch⟩ := s.fetchInstr_frame len
    rw [tick_of_not_halted_not_stopped len hh hs, hfetch]
    exact exec_legalMode _ hh hs
  · exact ⟨s, tick_of_halted_ne_stopped len hmode, h⟩

/-- The state a tick starts from differs from the whole one in the events only. -/
theorem coreTurn_frame {s0 s : State} (h : s0.coreTurn = some s) : ∃ events, s = { s0 with events := events } := by
  unfold State.coreTurn at h
  split at h
  · exact ⟨s0.events, (Option.some.inj h).symm⟩
  · exact ⟨_, (Option.some.inj h).symm⟩
  · cases h
  · cases h

/-- Settles O10: by what the step is, and for a tick by the two booleans. -/
theorem stepIsRefusedOnlyWhenHaltedAndStopped : Obligations.StepIsRefusedOnlyWhenHaltedAndStopped := by
  unfold Obligations.StepIsRefusedOnlyWhenHaltedAndStopped
  intro s0
  constructor
  · rintro ⟨hturn, hh, hs⟩
    obtain ⟨s, hturn⟩ := Option.isSome_iff_exists.mp hturn
    obtain ⟨events, rfl⟩ := coreTurn_frame hturn
    rw [step_of_coreTurn hturn]
    exact tick_of_halted_stopped _ hh hs
  · intro hnot
    rcases step_cases s0 with ⟨s, hturn, hstep⟩ | ⟨m, rest, -, hstep⟩ | ⟨rest, -, hstep⟩
    · obtain ⟨events, rfl⟩ := coreTurn_frame hturn
      have hlegal : ({ s0 with events := events } : State).legalMode = true := by
        simpa [State.legalMode, hturn, imp_iff_not_or] using hnot
      obtain ⟨t, htick, -⟩ := tick_of_legalMode Config.stopLength hlegal
      exact ⟨t, hstep.trans htick⟩
    · exact ⟨_, hstep⟩
    · exact ⟨_, hstep⟩

/-- Settles O53: a tick that answers a next state answers the one `tick_of_legalMode` speaks of. -/
theorem tickKeepsTheModeAdmitted : Obligations.TickKeepsTheModeAdmitted := by
  unfold Obligations.TickKeepsTheModeAdmitted
  intro s0 s t hturn hlegal hstep
  obtain ⟨t', htick, hlegal'⟩ := tick_of_legalMode Config.stopLength hlegal
  rw [step_of_coreTurn hturn, htick] at hstep
  cases hstep
  exact hlegal'

end Sys2Proof.Machine
end

section
/-! What the bus can become: from one bus to another by reads and stores of bytes and by nothing else (R201, R206), with a
bound on their number. An instruction makes at most two such calls and a step at most five; what every call keeps of the
RAM and of the record of calls, every step keeps. -/

namespace Sys2Proof.Machine

/-- The bus goes from `b` to another one by at most so many calls. -/
inductive Bus.ReachesIn (b : Bus) : Nat → Bus → Prop
  | refl (n : Nat) : b.ReachesIn n b
  | read {n : Nat} {b' : Bus} (h : b.ReachesIn n b') (addr : Word) (v : Byte) :
    b.ReachesIn (n + 1) { mem := b'.mem, answers := b'.answers.tail, calls := .read addr v :: b'.calls }
  | write {n : Nat} {b' : Bus} (h : b.ReachesIn n b') (addr : Word) (v : Byte) :
    b.ReachesIn (n + 1)
      { mem := Memory.poke b'.mem addr.toNat v, answers := b'.answers, calls := .write addr v :: b'.calls }

namespace Bus.ReachesIn

variable {b b' b'' : Bus} {n m : Nat}

theorem of_eq (h : b' = b) : b.ReachesIn n b' := h ▸ .refl n

theorem mono (h : b.ReachesIn n b') (hle : n ≤ m) : b.ReachesIn m b' := by
  induction h generalizing m with
  | refl => exact .refl m
  | read _ addr v ih =>
    cases m with
    | zero => cases hle
    | succ m => exact .read (ih (Nat.le_of_succ_le_succ hle)) addr v
  | write _ addr v ih =>
    cases m with
    | zero => cases hle
    | succ m => exact .write (ih (Nat.le_of_succ_le_succ hle)) addr v

theorem trans (h : b.ReachesIn n b') (h' : b'.ReachesIn m b'') : b.ReachesIn (n + m) b'' := by
  induction h' with
  | refl m => exact h.mono (Nat.le_add_right n m)
  | read _ addr v ih => exact .read ih addr v
  | write _ addr v ih => exact .write ih addr v

/-- No call leaves the canonical form. -/
theorem wf (h : b.ReachesIn n b') (hb : Memory.wf b.mem = true) : Memory.wf b'.mem = true := by
  induction h with
  | refl => exact hb
  | read _ _ _ ih => exact ih
  | write _ addr v ih => exact Memory.poke_wf _ addr v ih

/-- R208: the calls are added to those made before; and a byte of the RAM that none of them writes is as it was. -/
theorem exists_calls (h : b.ReachesIn n b') :
    ∃ made, b'.calls = made ++ b.calls ∧ made.length ≤ n ∧
      ∀ addr : Word, (∀ v, .write addr v ∉ made) → Memory.peek b'.mem addr.toNat = Memory.peek b.mem addr.toNat := by
  induction h with
  | refl n => exact ⟨[], rfl, Nat.zero_le n, fun _ _ => rfl⟩
  | read _ at' v' ih =>
    obtain ⟨made, hcalls, hlen, hmem⟩ := ih
    refine ⟨.read at' v' :: made, congrArg _ hcalls, Nat.succ_le_succ hlen, fun addr hnot => hmem addr fun v hv => ?_⟩
    exact hnot v (List.mem_cons_of_mem _ hv)
  | write _ at' v' ih =>
    obtain ⟨made, hcalls, hlen, hmem⟩ := ih
    refine ⟨.write at' v' :: made, congrArg _ hcalls, Nat.succ_le_succ hlen, fun addr hnot => ?_⟩
    have hne : addr ≠ at' := fun heq => hnot v' (heq ▸ List.mem_cons_self)
    rw [Memory.peek_poke_other _ _ _ _ fun heq => hne (BitVec.eq_of_toNat_eq heq)]
    exact hmem addr fun v hv => hnot v (List.mem_cons_of_mem _ hv)

end Bus.ReachesIn

/-! One rule per bus operation -/

theorem State.afterLocRead_reachesIn (s : State) (loc : Loc) : s.bus.ReachesIn 1 (s.afterLocRead loc).bus := by
  cases loc with
  | reg8 r => exact .refl 1
  | mem addr => exact .read (.refl 0) addr _

theorem State.writeLoc_reachesIn (s : State) (loc : Loc) (v : Byte) : s.bus.ReachesIn 1 (s.writeLoc loc v).bus := by
  cases loc with
  | reg8 r => exact .of_eq (s.setReg_bus r v)
  | mem addr => exact .write (.refl 0) addr v

theorem State.updateLoc_reachesIn (s : State) (src dst : Loc) (v : Byte) :
    s.bus.ReachesIn 2 ((s.afterLocRead src).writeLoc dst v).bus :=
  (s.afterLocRead_reachesIn src).trans (State.writeLoc_reachesIn _ dst v)

theorem State.busWrite16_reachesIn (s : State) (addr v : Word) : s.bus.ReachesIn 2 (s.busWrite16 addr v).bus :=
  .write (.write (.refl 0) addr _) (addr + 1) _

theorem State.push16_reachesIn (s : State) (v : Word) : s.bus.ReachesIn 2 (s.push16 v).bus :=
  State.busWrite16_reachesIn { s with sp := s.sp - 2 } _ v

theorem State.pop16_reachesIn (s : State) : s.bus.ReachesIn 2 s.pop16.2.bus :=
  .read (.read (.refl 0) s.sp _) (s.sp + 1) _

theorem State.fetch8_reachesIn (s : State) : s.bus.ReachesIn 1 s.fetch8.2.bus := .read (.refl 0) s.pc _

theorem State.fetchBytes_reachesIn (n : Nat) (s : State) : s.bus.ReachesIn n (s.fetchBytes n).2.bus := by
  induction n generalizing s with
  | zero => exact .refl 0
  | succ n ih => exact (s.fetch8_reachesIn.trans (ih s.fetch8.2)).mono (Nat.le_of_eq (Nat.add_comm 1 n))

/-- R309: no instruction has more than three bytes. -/
theorem State.fetchInstr_reachesIn (len : StopLength) (s : State) : s.bus.ReachesIn 3 (s.fetchInstr len).2.bus := by
  have hlen : 1 + (instrLength len s.fetch8.1 - 1) ≤ 3 := by
    have := instrLength_cases len s.fetch8.1
    omega
  exact (s.fetch8_reachesIn.trans (State.fetchBytes_reachesIn _ s.fetch8.2)).mono hlen

theorem State.dispatcherMove_reachesIn (s : State) (m : DispatcherMove) :
    s.bus.ReachesIn 1 (s.dispatcherMove m).bus := by
  cases m with
  | busRead addr => exact .read (.refl 0) addr _
  | busWrite addr v => exact .write (.refl 0) addr v
  | setIme | setHalted | setStopped | setPc | setSp => exact .refl 1

/-! Every instruction, and every step -/

/-- R206: an instruction makes at most two data accesses, and nothing else reaches the bus. -/
theorem exec_reachesIn (i : Instr) (s : State) : ∃ t, exec i s = .next t ∧ s.bus.ReachesIn 2 t.bus := by
  induction i using Instr.byFamily with
  | load y z =>
    rw [exec_load]
    split
    · exact ⟨_, rfl, .refl 2⟩
    · exact ⟨_, rfl, s.updateLoc_reachesIn _ _ _⟩
  | shift | res | set | inc | dec =>
    simp only [exec_shift, exec_res, exec_set, exec_inc, exec_dec]
    exact ⟨_, rfl, s.updateLoc_reachesIn _ _ _⟩
  | alu op m =>
    rw [exec_alu]
    have hread := (s.afterLocRead_reachesIn (s.resolve m)).mono (Nat.le_succ 1)
    exact ⟨_, rfl, by simpa using hread⟩
  | bit b m =>
    rw [exec_bit]
    exact ⟨_, rfl, (s.afterLocRead_reachesIn _).mono (Nat.le_succ 1)⟩
  | loadImm m n =>
    rw [exec_loadImm]
    exact ⟨_, rfl, (s.writeLoc_reachesIn _ n).mono (Nat.le_succ 1)⟩
  | aluImm | loadRp | addHl | incRp | decRp =>
    simp only [exec_aluImm, exec_loadRp, exec_addHl, exec_incRp, exec_decRp]
    exact ⟨_, rfl, .of_eq (by simp)⟩
  | storeInd p =>
    rw [exec_storeInd]
    have hwrite : s.bus.ReachesIn 2 (s.busWrite (s.indAddr p) s.a).bus := .write (.refl 1) _ _
    exact ⟨_, rfl, by simpa using hwrite⟩
  | loadInd p =>
    rw [exec_loadInd]
    have hread : s.bus.ReachesIn 2 (s.afterRead (s.indAddr p)).bus := .read (.refl 1) _ _
    exact ⟨_, rfl, by simpa using hread⟩
  | push | rst =>
    simp only [exec_push, exec_rst]
    exact ⟨_, rfl, s.push16_reachesIn _⟩
  | pop q =>
    rw [exec_pop]
    exact ⟨_, rfl, by simpa using s.pop16_reachesIn⟩
  | jrCond | jpCond =>
    simp only [exec_jrCond, exec_jpCond, jumpRelativeIf, jumpIf]
    split <;> exact ⟨_, rfl, .refl 2⟩
  | callCond cc nn =>
    simp only [exec_callCond, callIf]
    split
    · exact ⟨_, rfl, s.push16_reachesIn _⟩
    · exact ⟨_, rfl, .refl 2⟩
  | retCond cc =>
    simp only [exec_retCond, returnIf]
    split
    · exact ⟨_, rfl, s.pop16_reachesIn⟩
    · exact ⟨_, rfl, .refl 2⟩
  | illegal i h =>
    rw [exec_illegal i s h]
    exact ⟨_, rfl, .refl 2⟩
  | callN16 => exact ⟨_, rfl, s.push16_reachesIn _⟩
  | ret | reti => exact ⟨_, rfl, s.pop16_reachesIn⟩
  | ldAtN16Sp nn => exact ⟨_, rfl, s.busWrite16_reachesIn nn _⟩
  | ldhAtN8A | ldAtCA | ldAtN16A => exact ⟨_, rfl, .write (.refl 1) _ _⟩
  | ldhAAtN8 | ldAAtC | ldAAtN16 => exact ⟨_, rfl, .read (.refl 1) _ _⟩
  | nop | stop | rlca | rrca | rla | rra | daa | cpl | scf | ccf | jrE8 | jpN16 | jpHl | addSpE8 | ldHlSpE8 | ldSpHl | di
  | ei => exact ⟨_, rfl, .refl 2⟩

/-- R300: the fetches and the data accesses of one instruction, or no call. -/
theorem tick_reachesIn {len : StopLength} {s t : State} (h : tick len s = .next t) : s.bus.ReachesIn 5 t.bus := by
  by_cases hmode : s.halted = s.stopped
  · cases hh : s.halted with
    | true => cases (tick_of_halted_stopped len hh (hmode ▸ hh)).symm.trans h
    | false =>
      rw [tick_of_not_halted_not_stopped len hh (hmode ▸ hh)] at h
      obtain ⟨t', hexec, hdata⟩ := exec_reachesIn (s.fetchInstr len).1 (s.fetchInstr len).2
      cases hexec.symm.trans h
      exact (s.fetchInstr_reachesIn len).trans hdata
  · cases (tick_of_halted_ne_stopped len hmode).symm.trans h
    exact .refl 5

/-- R1204, R131: a dispatcher move makes at most one call, and a reset none. -/
theorem step_reachesIn {s t : State} (h : step s = .next t) : s.bus.ReachesIn 5 t.bus := by
  rcases step_cases s with ⟨s', hturn, hstep⟩ | ⟨m, rest, -, hstep⟩ | ⟨rest, -, hstep⟩
  · obtain ⟨events, rfl⟩ := coreTurn_frame hturn
    have htick := tick_reachesIn (hstep.symm.trans h)
    exact htick
  · cases hstep.symm.trans h
    exact (State.dispatcherMove_reachesIn { s with events := rest } m).mono (by decide)
  · cases hstep.symm.trans h
    exact .refl 5

/-- Settles O52: a step reaches the RAM by stores of bytes only, and each of these keeps the form. -/
theorem stepKeepsTheMemoryCanonical : Obligations.StepKeepsTheMemoryCanonical := by
  unfold Obligations.StepKeepsTheMemoryCanonical
  intro s t hwf hstep
  exact (step_reachesIn hstep).wf hwf

/-- Settles O51: three fetches and two data accesses, each added before the calls already there. -/
theorem stepsOnlyAddBusCalls : Obligations.StepsOnlyAddBusCalls := by
  unfold Obligations.StepsOnlyAddBusCalls
  intro s t hstep
  obtain ⟨made, hcalls, hlen, -⟩ := (step_reachesIn hstep).exists_calls
  exact ⟨made, hcalls, hlen⟩

theorem mem_storedAddresses {i : Instr} {s : State} {addr : Word} (h : .write addr ∈ accesses i s) :
    addr ∈ storedAddresses i s :=
  List.mem_filterMap.mpr ⟨.write addr, h, rfl⟩

/-- Settles O46: only a call that writes a byte changes it, and the calls made are those of `accesses`. -/
theorem instructionsStoreOnlyAtTheirAddresses : Obligations.InstructionsStoreOnlyAtTheirAddresses := by
  unfold Obligations.InstructionsStoreOnlyAtTheirAddresses
  intro i s
  obtain ⟨t, hexec, listed, hlisted, haccesses, -⟩ := exec_makes_accesses i s
  obtain ⟨t', hexec', hreaches⟩ := exec_reachesIn i s
  cases hexec.symm.trans hexec'
  obtain ⟨made, hcalls, -, hmem⟩ := hreaches.exists_calls
  have hmade : made = listed.reverse := List.append_cancel_right (hcalls.symm.trans hlisted)
  refine ⟨t, hexec, fun addr hnot => hmem addr fun v hv => hnot (mem_storedAddresses ?_)⟩
  rw [hmade, List.mem_reverse] at hv
  exact haccesses ▸ List.mem_map_of_mem (f := BusCall.access) hv

end Sys2Proof.Machine
end

section
/-! The RAM behind a bus that answers (R201): no read returns it, so two runs that differ in it differ in nothing else. -/

namespace Sys2Proof.Machine

/-- The state on a bus that has two answers pending and others after them, over some RAM. -/
def State.answered (s : State) (v0 v1 : Byte) (more : List Byte) (mem : List Host.Cell) : State :=
  { s with bus := { mem := mem, answers := v0 :: v1 :: more, calls := s.bus.calls } }

theorem condHolds_answered (cc : Cond) (s : State) (v0 v1 : Byte) (more : List Byte) (mem : List Host.Cell) :
    condHolds cc (s.answered v0 v1 more mem).f = condHolds cc s.f := by
  cases cc <;> rfl

theorem State.answered_self {s : State} {v0 v1 : Byte} {more : List Byte} (h : s.bus.answers = v0 :: v1 :: more)
    (mem : List Host.Cell) : s.answered v0 v1 more mem = { s with bus := { s.bus with mem := mem } } := by
  rw [State.answered, ← h]

/-- R201: over two RAMs the runs differ in the RAM only. Once its operand's form is known an instruction takes the same
answers in both, and they are the same term but for the RAM. -/
theorem exec_answered (i : Instr) (s : State) (v0 v1 : Byte) (more : List Byte) (mem mem' : List Host.Cell) :
    ∃ t left, exec i (s.answered v0 v1 more mem) = .next t ∧
      exec i (s.answered v0 v1 more mem') = .next { t with bus := { t.bus with mem := left } } := by
  induction i using Instr.byFamily with
  | load y z =>
    simp only [exec_load]
    split
    · exact ⟨_, _, rfl, rfl⟩
    · cases y <;> cases z <;> exact ⟨_, _, rfl, rfl⟩
  | alu op m =>
    simp only [exec_alu]
    cases op <;> cases m <;> exact ⟨_, _, rfl, rfl⟩
  | aluImm op =>
    cases op <;> exact ⟨_, _, rfl, rfl⟩
  | shift _ m | bit _ m | res _ m | set _ m =>
    simp only [exec_shift, exec_bit, exec_res, exec_set]
    cases m <;> exact ⟨_, _, rfl, rfl⟩
  | inc m | dec m | loadImm m | loadRp m | addHl m | incRp m | decRp m | storeInd m | loadInd m | push m | pop m
  | rst m => cases m <;> exact ⟨_, _, rfl, rfl⟩
  | jrCond | jpCond | callCond | retCond =>
    simp only [exec_jrCond, exec_jpCond, exec_callCond, exec_retCond, jumpRelativeIf, jumpIf, callIf, returnIf,
      condHolds_answered]
    split <;> exact ⟨_, _, rfl, rfl⟩
  | illegal i h =>
    simp only [exec_illegal i _ h]
    exact ⟨_, _, rfl, rfl⟩
  | _ => exact ⟨_, _, rfl, rfl⟩

/-- Settles O50: no instruction makes more than two reads, so with two answers pending none reaches the RAM. -/
theorem anInstructionDependsOnlyOnTheBusAnswers : Obligations.AnInstructionDependsOnlyOnTheBusAnswers := by
  unfold Obligations.AnInstructionDependsOnlyOnTheBusAnswers
  intro i s mem htwo
  match hanswers : s.bus.answers, htwo with
  | v0 :: v1 :: more, _ =>
    have hruns := exec_answered i s v0 v1 more s.bus.mem mem
    rwa [State.answered_self hanswers, State.answered_self hanswers] at hruns

end Sys2Proof.Machine
end

section
/-! The two bytes of a 16-bit access on the RAM bus (R202, R203, R211). -/

namespace Sys2Proof.Machine

/-- R202: on the RAM bus a word read at an address is the word stored there. -/
theorem State.busRead16_busWrite16 {s : State} (addr v : Word) (hwf : s.memWf = true) (hram : s.bus.answers = []) :
    ((s.busWrite16 addr v).busRead16 addr).1 = v := by
  rw [State.busRead16_ram (s.busWrite16 addr v) addr hram, s.busWrite16_peek_high addr v hwf,
    s.busWrite16_peek_low addr v hwf, concat_high_low]

/-- Settles O58: from the laws of the two 16-bit accesses, the wrap being the high byte's law at 0xFFFF. -/
theorem wordAccessesAreLittleEndian : Obligations.WordAccessesAreLittleEndian := by
  unfold Obligations.WordAccessesAreLittleEndian
  intro s addr v hwf hram
  have hread := s.busRead16_ram_eq addr hram
  exact ⟨s.busWrite16_peek_low addr v hwf, s.busWrite16_peek_high addr v hwf, s.busWrite16_peek_other addr v, rfl,
    s.busRead16_ram addr hram, by rw [hread], State.busRead16_busWrite16 addr v hwf hram,
    s.busWrite16_peek_high 0xFFFF#16 v hwf⟩

end Sys2Proof.Machine
end

section
/-! The round trip from instructions to bytes and back (R301, R303): the decoder reads back each family's bit pattern,
and what it reads does not depend on the bytes that follow. -/

namespace Sys2Proof

/-- R309: bytes after an instruction change nothing of what the decoder reads, and are left over. -/
theorem decode_append {len : StopLength} {bs left : List Byte} {i : Instr} (h : decode len bs = .ok (i, left))
    (rest : List Byte) : decode len (bs ++ rest) = .ok (i, left ++ rest) := by
  cases bs with
  | nil => simp [decode] at h
  | cons op bs =>
    obtain ⟨hlen, rfl, rfl⟩ := decode_cons_eq_ok.mp h
    rw [List.cons_append]
    refine decode_cons_eq_ok.mpr ⟨?_, decodeOpcode_congr (fun h1 => ?_) (fun h2 => ?_), ?_⟩
    · rw [List.length_append]
      omega
    · rw [List.getD_append _ _ _ _ (by omega)]
    · rw [List.getD_append _ _ _ _ (by omega)]
    · rw [List.drop_append_of_le_length hlen]

/-- R303: a 16-bit immediate is put together from the two bytes it was written as. -/
theorem decode_encodeN16 {len : StopLength} {op : Byte} {f : Word → Instr}
    (h : ∀ lo hi : Byte, decode len [op, lo, hi] = .ok (f (concat hi lo), [])) (nn : Word) :
    decode len (encodeN16 op nn) = .ok (f nn, []) := by
  rw [encodeN16, h, concat_high_low]

/-- R301: the decoder reads from an instruction's bytes that instruction, and takes them all. -/
theorem decode_encode {len : StopLength} {i : Instr} (hwf : i.wellFormed len = true) :
    decode len (encode len i) = .ok (i, []) := by
  induction i using Instr.byFamily with
  | load y z => cases y <;> cases z <;> rfl
  | alu op m => cases op <;> cases m <;> rfl
  | shift op m => cases op <;> cases m <;> rfl
  | bit b m | res b m | set b m => cases b <;> cases m <;> rfl
  | loadRp p nn => cases p <;> exact decode_encodeN16 (fun _ _ => rfl) nn
  | jpCond cc nn | callCond cc nn => cases cc <;> exact decode_encodeN16 (fun _ _ => rfl) nn
  | ldAtN16Sp nn | jpN16 nn | callN16 nn | ldAtN16A nn | ldAAtN16 nn => exact decode_encodeN16 (fun _ _ => rfl) nn
  | stop ignored =>
    cases len with
    | one =>
      have hzero : ignored = 0x00#8 := by simpa [Instr.wellFormed] using hwf
      rw [hzero]
      rfl
    | two => rfl
  | illegal i h =>
    cases i with
    | illegalD3 | illegalDB | illegalDD | illegalE3 | illegalE4 | illegalEB | illegalEC | illegalED | illegalF4
    | illegalFC | illegalFD => rfl
    | _ => cases h
  | aluImm m | inc m | dec m | loadImm m | addHl m | incRp m | decRp m | storeInd m | loadInd m | push m | pop m
  | jrCond m | retCond m | rst m => cases m <;> rfl
  | _ => rfl

/-- R301: an instruction's own bytes decode to it, and the bytes after them stay. -/
theorem decode_encode_append {len : StopLength} (i : Instr) (rest : List Byte) (hwf : i.wellFormed len = true) :
    decode len (encode len i ++ rest) = .ok (i, rest) :=
  decode_append (decode_encode hwf) rest

/-- Settles O2, by `decode_encode_append`: by family of instructions, and no byte past the instruction is read. -/
theorem decodeOfEncodeIsTheInstruction : Obligations.DecodeOfEncodeIsTheInstruction := by
  unfold Obligations.DecodeOfEncodeIsTheInstruction
  intro len i rest hwf
  exact decode_encode_append i rest hwf

/-- Settles O1: each word is the encoding of its instruction, with the byte that follows where there is one. -/
theorem wordsOfTheSpecDecode : Obligations.WordsOfTheSpecDecode := by
  unfold Obligations.WordsOfTheSpecDecode
  exact ⟨decode_encode_append (.ldAN8 0x05#8) [0xC6#8] rfl,
    decode_encode_append .daa [] rfl,
    decode_encode_append .halt [] rfl,
    decode_encode_append .ldHAtHl [] rfl,
    decode_encode_append .adcAE [] rfl,
    decode_encode_append (.ldHlN16 0x1234#16) [] rfl,
    decode_encode_append (.jrNcE8 0x05#8) [] rfl,
    decode_encode_append (.callN16 0x1234#16) [] rfl,
    decode_encode_append .cbBit4L [] rfl,
    decode_encode_append .rst28 [] rfl,
    decode_encode_append (.stop 0x00#8) [] rfl,
    decode_encode_append (.stop 0x00#8) [0x00#8] rfl⟩

end Sys2Proof
end

section
/-! The round trip from bytes to an instruction and back (R301, R302, R308): in each branch of the decoder the encoder
writes the opcode again, put together from its fields, and the operand bytes the branch has read. -/

namespace Sys2Proof

/-! An opcode is made up of its fields (R302), in each of the ways the field patterns cut it -/

theorem fieldX_lt (op : Byte) : fieldX op < 4 := Nat.div_lt_of_lt_mul op.isLt

theorem fieldY_lt (op : Byte) : fieldY op < 8 := Nat.mod_lt _ (by decide)

theorem fieldZ_lt (op : Byte) : fieldZ op < 8 := Nat.mod_lt _ (by decide)

theorem fieldP_lt (op : Byte) : fieldP op < 4 := Nat.mod_lt _ (by decide)

theorem fieldQ_lt (op : Byte) : fieldQ op < 2 := Nat.mod_lt _ (by decide)

theorem fieldC_lt (op : Byte) : fieldC op < 4 := Nat.mod_lt _ (by decide)

theorem fieldQ_eq_one {op : Byte} (h : fieldQ op ≠ 0) : fieldQ op = 1 := by
  have := fieldQ_lt op
  omega

theorem fieldY_of_fieldP_fieldQ {op : Byte} {p q : Nat} (hp : fieldP op = p) (hq : fieldQ op = q) :
    fieldY op = p * 2 + q := by
  subst hp hq
  simp only [fieldY, fieldP, fieldQ]
  omega

theorem opcode_of_xyz {op : Byte} {x y z : Nat} (hx : fieldX op = x) (hy : fieldY op = y) (hz : fieldZ op = z) :
    BitVec.ofNat 2 x ++ BitVec.ofNat 3 y ++ BitVec.ofNat 3 z = op := by
  subst hx hy hz
  revert op
  decide

theorem opcode_of_xp {op : Byte} {x qz : Nat} (hx : fieldX op = x) (hqz : fieldQ op * 8 + fieldZ op = qz) :
    BitVec.ofNat 2 x ++ BitVec.ofNat 2 (fieldP op) ++ BitVec.ofNat 4 qz = op := by
  subst hx hqz
  revert op
  decide

theorem opcode_of_cz {op : Byte} {xy z : Nat} (hxy : fieldX op * 2 + fieldY op / 4 = xy) (hz : fieldZ op = z) :
    BitVec.ofNat 3 xy ++ BitVec.ofNat 2 (fieldC op) ++ BitVec.ofNat 3 z = op := by
  subst hxy hz
  revert op
  decide

/-! The code of the operand numbered by a field is that field (R110 to R115, R305, R306) -/

theorem R8.code_ofIndex {n : Nat} (h : n < 8) : (R8.ofIndex n).code = BitVec.ofNat 3 n := by
  revert n
  decide

theorem AluOp.code_ofIndex {n : Nat} (h : n < 8) : (AluOp.ofIndex n).code = BitVec.ofNat 3 n := by
  revert n
  decide

theorem ShiftOp.code_ofIndex {n : Nat} (h : n < 8) : (ShiftOp.ofIndex n).code = BitVec.ofNat 3 n := by
  revert n
  decide

theorem Octal.code_ofIndex {n : Nat} (h : n < 8) : (Octal.ofIndex n).code = BitVec.ofNat 3 n := by
  revert n
  decide

theorem Rp.code_ofIndex {n : Nat} (h : n < 4) : (Rp.ofIndex n).code = BitVec.ofNat 2 n := by
  revert n
  decide

theorem Rp2.code_ofIndex {n : Nat} (h : n < 4) : (Rp2.ofIndex n).code = BitVec.ofNat 2 n := by
  revert n
  decide

theorem Ind.code_ofIndex {n : Nat} (h : n < 4) : (Ind.ofIndex n).code = BitVec.ofNat 2 n := by
  revert n
  decide

theorem Cond.code_ofIndex {n : Nat} (h : n < 4) : (Cond.ofIndex n).code = BitVec.ofNat 2 n := by
  revert n
  decide

/-! The three formats of R301, as the first bytes of the three the decoder is given -/

theorem isPrefix_op {op op' : Byte} (b1 b2 : Byte) (h : op' = op) : [op'] <+: [op, b1, b2] := by
  simp [h]

theorem isPrefix_op_n8 {op op' : Byte} (b1 b2 : Byte) (h : op' = op) : [op', b1] <+: [op, b1, b2] := by
  simp [h]

theorem isPrefix_op_n16 {op op' : Byte} (b1 b2 : Byte) (h : op' = op) :
    encodeN16 op' (concat b2 b1) <+: [op, b1, b2] := by
  simp [encodeN16, h]

/-! The branches of the decoder -/

/-- R306: all four blocks of the CB set. -/
theorem encode_decodeCb (len : StopLength) (b : Byte) : encode len (decodeCb b) = [0xCB#8, b] := by
  have hy := fieldY_lt b
  have hm := R8.code_ofIndex (fieldZ_lt b)
  unfold decodeCb
  split
  case h_1 hx => rw [encode_shift, ShiftOp.code_ofIndex hy, hm, opcode_of_xyz hx rfl rfl]
  case h_2 hx => rw [encode_bit, Octal.code_ofIndex hy, hm, opcode_of_xyz hx rfl rfl]
  case h_3 hx => rw [encode_res, Octal.code_ofIndex hy, hm, opcode_of_xyz hx rfl rfl]
  case h_4 h0 h1 h2 =>
    have hx : fieldX b = 3 := by grind [fieldX_lt]
    rw [encode_set, Octal.code_ofIndex hy, hm, opcode_of_xyz hx rfl rfl]

theorem encode_decodeStop_isPrefix (len : StopLength) {op b1 : Byte} (b2 : Byte) (h : 0x10#8 = op) :
    encode len (decodeStop len b1) <+: [op, b1, b2] := by
  cases len with
  | one => exact isPrefix_op b1 b2 h
  | two => exact isPrefix_op_n8 b1 b2 h

/-- R304: each branch of block 0 encodes to its opcode and the operand bytes it reads. -/
theorem encode_decodeBlock0_isPrefix (len : StopLength) {op : Byte} (b1 b2 : Byte) (hx : fieldX op = 0) :
    encode len (decodeBlock0 len op b1 b2) <+: [op, b1, b2] := by
  have hm := R8.code_ofIndex (fieldY_lt op)
  have hrp := Rp.code_ofIndex (fieldP_lt op)
  have hind := Ind.code_ofIndex (fieldP_lt op)
  unfold decodeBlock0
  split
  case h_1 hz =>
    split
    case h_1 hy => exact isPrefix_op b1 b2 (opcode_of_xyz hx hy hz)
    case h_2 hy => exact isPrefix_op_n16 b1 b2 (opcode_of_xyz hx hy hz)
    case h_3 hy => exact encode_decodeStop_isPrefix len b2 (opcode_of_xyz hx hy hz)
    case h_4 hy => exact isPrefix_op_n8 b1 b2 (opcode_of_xyz hx hy hz)
    case h_5 =>
      rw [encode_jrCond, Cond.code_ofIndex (fieldC_lt op)]
      exact isPrefix_op_n8 b1 b2 (opcode_of_cz (by grind [fieldY_lt]) hz)
  case h_2 hz =>
    split
    case h_1 hq =>
      rw [encode_loadRp, hrp]
      exact isPrefix_op_n16 b1 b2 (opcode_of_xp hx (by rw [hq, hz]))
    case h_2 hq =>
      rw [encode_addHl, hrp]
      exact isPrefix_op b1 b2 (opcode_of_xp hx (by rw [fieldQ_eq_one hq, hz]))
  case h_3 hz =>
    split
    case h_1 hq =>
      rw [encode_storeInd, hind]
      exact isPrefix_op b1 b2 (opcode_of_xp hx (by rw [hq, hz]))
    case h_2 hq =>
      rw [encode_loadInd, hind]
      exact isPrefix_op b1 b2 (opcode_of_xp hx (by rw [fieldQ_eq_one hq, hz]))
  case h_4 hz =>
    split
    case h_1 hq =>
      rw [encode_incRp, hrp]
      exact isPrefix_op b1 b2 (opcode_of_xp hx (by rw [hq, hz]))
    case h_2 hq =>
      rw [encode_decRp, hrp]
      exact isPrefix_op b1 b2 (opcode_of_xp hx (by rw [fieldQ_eq_one hq, hz]))
  case h_5 hz =>
    rw [encode_inc, hm]
    exact isPrefix_op b1 b2 (opcode_of_xyz hx rfl hz)
  case h_6 hz =>
    rw [encode_dec, hm]
    exact isPrefix_op b1 b2 (opcode_of_xyz hx rfl hz)
  case h_7 hz =>
    rw [encode_loadImm, hm]
    exact isPrefix_op_n8 b1 b2 (opcode_of_xyz hx rfl hz)
  case h_8 =>
    have hz : fieldZ op = 7 := by grind [fieldZ_lt]
    split
    case h_1 hy | h_2 hy | h_3 hy | h_4 hy | h_5 hy | h_6 hy | h_7 hy =>
      exact isPrefix_op b1 b2 (opcode_of_xyz hx hy hz)
    case h_8 =>
      have hy : fieldY op = 7 := by grind [fieldY_lt]
      exact isPrefix_op b1 b2 (opcode_of_xyz hx hy hz)

/-- R304, R320: each branch of block 3 encodes to its opcode and the operand bytes it reads. -/
theorem encode_decodeBlock3_isPrefix (len : StopLength) {op : Byte} (b1 b2 : Byte) (hx : fieldX op = 3) :
    encode len (decodeBlock3 op b1 b2) <+: [op, b1, b2] := by
  have hrp2 := Rp2.code_ofIndex (fieldP_lt op)
  have hcc := Cond.code_ofIndex (fieldC_lt op)
  unfold decodeBlock3
  split
  case h_1 hz =>
    split
    case h_1 hy | h_2 hy | h_3 hy | h_4 hy => exact isPrefix_op_n8 b1 b2 (opcode_of_xyz hx hy hz)
    case h_5 =>
      rw [encode_retCond, hcc]
      exact isPrefix_op b1 b2 (opcode_of_cz (by grind [fieldY_lt]) hz)
  case h_2 hz =>
    split
    case h_1 hq =>
      rw [encode_pop, hrp2]
      exact isPrefix_op b1 b2 (opcode_of_xp hx (by rw [hq, hz]))
    case h_2 hp hq | h_3 hp hq | h_4 hp hq =>
      exact isPrefix_op b1 b2 (opcode_of_xyz hx (fieldY_of_fieldP_fieldQ hp (fieldQ_eq_one hq)) hz)
    case h_5 hq _ _ _ =>
      have hp : fieldP op = 3 := by grind [fieldP_lt]
      exact isPrefix_op b1 b2 (opcode_of_xyz hx (fieldY_of_fieldP_fieldQ hp (fieldQ_eq_one hq)) hz)
  case h_3 hz =>
    split
    case h_1 hy => exact isPrefix_op b1 b2 (opcode_of_xyz hx hy hz)
    case h_2 hy => exact isPrefix_op_n16 b1 b2 (opcode_of_xyz hx hy hz)
    case h_3 hy => exact isPrefix_op b1 b2 (opcode_of_xyz hx hy hz)
    case h_4 hy => exact isPrefix_op_n16 b1 b2 (opcode_of_xyz hx hy hz)
    case h_5 =>
      rw [encode_jpCond, hcc]
      exact isPrefix_op_n16 b1 b2 (opcode_of_cz (by grind [fieldY_lt]) hz)
  case h_4 hz =>
    split
    case h_1 hy => exact isPrefix_op_n16 b1 b2 (opcode_of_xyz hx hy hz)
    case h_2 hy =>
      rw [encode_decodeCb]
      exact isPrefix_op_n8 b1 b2 (opcode_of_xyz hx hy hz)
    case h_3 hy | h_4 hy | h_5 hy | h_6 hy | h_7 hy => exact isPrefix_op b1 b2 (opcode_of_xyz hx hy hz)
    case h_8 =>
      have hy : fieldY op = 7 := by grind [fieldY_lt]
      exact isPrefix_op b1 b2 (opcode_of_xyz hx hy hz)
  case h_5 hz =>
    split
    case h_1 hy | h_2 hy | h_3 hy | h_4 hy => exact isPrefix_op b1 b2 (opcode_of_xyz hx hy hz)
    case h_5 =>
      rw [encode_callCond, hcc]
      exact isPrefix_op_n16 b1 b2 (opcode_of_cz (by grind [fieldY_lt]) hz)
  case h_6 hz =>
    split
    case h_1 hq =>
      rw [encode_push, hrp2]
      exact isPrefix_op b1 b2 (opcode_of_xp hx (by rw [hq, hz]))
    case h_2 hp hq =>
      exact isPrefix_op_n16 b1 b2 (opcode_of_xyz hx (fieldY_of_fieldP_fieldQ hp (fieldQ_eq_one hq)) hz)
    case h_3 hp hq | h_4 hp hq =>
      exact isPrefix_op b1 b2 (opcode_of_xyz hx (fieldY_of_fieldP_fieldQ hp (fieldQ_eq_one hq)) hz)
    case h_5 hq _ _ _ =>
      have hp : fieldP op = 3 := by grind [fieldP_lt]
      exact isPrefix_op b1 b2 (opcode_of_xyz hx (fieldY_of_fieldP_fieldQ hp (fieldQ_eq_one hq)) hz)
  case h_7 hz =>
    rw [encode_aluImm, AluOp.code_ofIndex (fieldY_lt op)]
    exact isPrefix_op_n8 b1 b2 (opcode_of_xyz hx rfl hz)
  case h_8 =>
    have hz : fieldZ op = 7 := by grind [fieldZ_lt]
    rw [encode_rst, Octal.code_ofIndex (fieldY_lt op)]
    exact isPrefix_op b1 b2 (opcode_of_xyz hx rfl hz)

/-- The three bytes the decoder is given begin with the encoding of what it reads from them. -/
theorem encode_decodeOpcode_isPrefix (len : StopLength) (op b1 b2 : Byte) :
    encode len (decodeOpcode len op b1 b2) <+: [op, b1, b2] := by
  have hm := R8.code_ofIndex (fieldZ_lt op)
  unfold decodeOpcode
  split
  case h_1 hx => exact encode_decodeBlock0_isPrefix len b1 b2 hx
  case h_2 hx =>
    rw [encode_load, R8.code_ofIndex (fieldY_lt op), hm]
    exact isPrefix_op b1 b2 (opcode_of_xyz hx rfl rfl)
  case h_3 hx =>
    rw [encode_alu, AluOp.code_ofIndex (fieldY_lt op), hm]
    exact isPrefix_op b1 b2 (opcode_of_xyz hx rfl rfl)
  case h_4 =>
    have hx : fieldX op = 3 := by grind [fieldX_lt]
    exact encode_decodeBlock3_isPrefix len b1 b2 hx

/-- R301, R309: what is decoded from an opcode and the two bytes after it encodes to as many of them as it has. -/
theorem encode_decodeOpcode (len : StopLength) (op b1 b2 : Byte) :
    encode len (decodeOpcode len op b1 b2) = [op, b1, b2].take (instrLength len op) := by
  rw [← encode_decodeOpcode_length len op b1 b2]
  exact List.prefix_iff_eq_take.mp (encode_decodeOpcode_isPrefix len op b1 b2)

/-- The opcode decoded is the first byte of the encoding. -/
theorem eq_opcode_of_encode {len : StopLength} {op op' b1 b2 : Byte} {bs : List Byte}
    (h : encode len (decodeOpcode len op b1 b2) = op' :: bs) : op = op' := by
  have hbytes := encode_decodeOpcode_isPrefix len op b1 b2
  rw [h, List.cons_prefix_cons] at hbytes
  obtain ⟨hop, -⟩ := hbytes
  exact hop.symm

/-- R902: where STOP has one byte, the decoder reads the one term that stands for it. -/
theorem decodeOpcode_wellFormed (len : StopLength) (op b1 b2 : Byte) :
    (decodeOpcode len op b1 b2).wellFormed len = true := by
  unfold Instr.wellFormed
  split
  case h_1 ignored hstop =>
    cases len with
    | two => rfl
    | one =>
      have hop : op = 0x10#8 := eq_opcode_of_encode (congrArg (encode .one) hstop)
      subst hop
      cases hstop
      rfl
  case h_2 => rfl

/-- R308: a list long enough begins with the operand bytes the decoder takes from it. -/
theorem take_getD_pair {bs : List Byte} {n : Nat} (hlen : n ≤ bs.length) (hn : n ≤ 2) :
    [bs.getD 0 0x00#8, bs.getD 1 0x00#8].take n = bs.take n := by
  match n, bs, hlen with
  | 0, _, _ => rfl
  | 1, _ :: _, _ => rfl
  | 2, _ :: _ :: _, _ => rfl

/-- Settles O3: the opcode and the operand bytes the decoder has read are the ones the encoder writes. -/
theorem encodeOfDecodeIsTheBytes : Obligations.EncodeOfDecodeIsTheBytes := by
  unfold Obligations.EncodeOfDecodeIsTheBytes
  intro len bs rest i h
  cases bs with
  | nil => simp [decode] at h
  | cons op bs =>
    obtain ⟨hlen, rfl, rfl⟩ := decode_cons_eq_ok.mp h
    refine ⟨decodeOpcode_wellFormed len op _ _, ?_⟩
    have hcases := instrLength_cases len op
    obtain ⟨n, hn⟩ : ∃ n, instrLength len op = n + 1 := ⟨instrLength len op - 1, by omega⟩
    rw [encode_decodeOpcode, hn, List.take_succ_cons, take_getD_pair (by omega) (by omega), List.cons_append,
      Nat.add_sub_cancel, List.take_append_drop]

theorem exists_decode_cons_eq_error {len : StopLength} {op : Byte} {bs : List Byte} :
    (∃ err, decode len (op :: bs) = .error err) ↔ (op :: bs).length < instrLength len op := by
  rw [List.length_cons, ← Nat.lt_sub_iff_add_lt]
  by_cases hshort : bs.length < instrLength len op - 1
  · simp [decode, hshort]
  · simp [decode, hshort]

/-- Settles O4: the empty list has no opcode, and another list is rejected where it is shorter than its opcode says. -/
theorem decodeRejectsOnlyTruncatedBytes : Obligations.DecodeRejectsOnlyTruncatedBytes := by
  unfold Obligations.DecodeRejectsOnlyTruncatedBytes
  intro len bs
  cases bs with
  | nil => simp [decode]
  | cons op bs =>
    rw [exists_decode_cons_eq_error]
    exact ⟨fun hshort _ _ h => (List.cons.inj h).1 ▸ hshort, fun h => h op bs rfl⟩

end Sys2Proof
end

section
/-! The opcodes of the illegal instructions and of HALT (R307, R320), read off their encodings. -/

namespace Sys2Proof

theorem encode_illegal {len : StopLength} {i : Instr} (h : i.isIllegal = true) :
    ∃ op, encode len i = [op] ∧
      op ∈ [0xD3#8, 0xDB#8, 0xDD#8, 0xE3#8, 0xE4#8, 0xEB#8, 0xEC#8, 0xED#8, 0xF4#8, 0xFC#8, 0xFD#8] := by
  cases i with
  | illegalD3 | illegalDB | illegalDD | illegalE3 | illegalE4 | illegalEB | illegalEC | illegalED | illegalF4
  | illegalFC | illegalFD => exact ⟨_, rfl, by decide⟩
  | _ => cases h

/-- Settles O5: an illegal instruction encodes to one of the eleven bytes alone, and its opcode is that byte. -/
theorem illegalOpcodesAreElevenAndStopTheCore : Obligations.IllegalOpcodesAreElevenAndStopTheCore := by
  unfold Obligations.IllegalOpcodesAreElevenAndStopTheCore
  intro len op b1 b2
  refine ⟨⟨fun h => ?_, fun h => ?_⟩, fun h => ⟨?_, fun s => Machine.exec_illegal _ s h⟩⟩
  · obtain ⟨op', hencode, hmem⟩ := encode_illegal (len := len) h
    rwa [eq_opcode_of_encode hencode]
  · fin_cases h <;> rfl
  · obtain ⟨op', hencode, -⟩ := encode_illegal (len := len) h
    rw [← encode_decodeOpcode_length len op b1 b2, hencode]
    rfl

/-- Settles O6: HALT encodes to 0x76, so no other opcode decodes to it. -/
theorem opcode76IsHaltAndNotALoad : Obligations.Opcode76IsHaltAndNotALoad := by
  unfold Obligations.Opcode76IsHaltAndNotALoad
  intro len op b1 b2
  refine ⟨⟨fun h => eq_opcode_of_encode (congrArg (encode len) h), ?_⟩, fun s => rfl⟩
  rintro rfl
  rfl

end Sys2Proof
end

section
/-! What a step of a Halted or Stopped core and an instruction answer (R300). -/

namespace Sys2Proof.Machine

/-- Settles O9: such a step is a tick with the two booleans different. -/
theorem haltedOrStoppedStepChangesNothing : Obligations.HaltedOrStoppedStepChangesNothing := by
  unfold Obligations.HaltedOrStoppedStepChangesNothing
  intro s0 s hturn hmode
  rw [step_of_coreTurn hturn]
  exact tick_of_halted_ne_stopped _ (bne_iff_ne.mp hmode)

/-- Settles O11: the next state `exec_allowed` speaks of. -/
theorem everyInstructionCompletes : Obligations.EveryInstructionCompletes := by
  unfold Obligations.EveryInstructionCompletes
  intro i s
  obtain ⟨t, hexec, -⟩ := exec_allowed i s
  exact ⟨t, hexec⟩

end Sys2Proof.Machine
end

section
/-! The 8-bit loads (R400 to R418), read off the meanings of their families. -/

namespace Sys2Proof.Machine

/-- R307: (HL) on both sides is HALT; every other pair of operands is a load. -/
theorem exec_load_of_ne_atHl {y z : R8} (h : y ≠ .atHl ∨ z ≠ .atHl) (s : State) :
    exec (.load y z) s = loadFrom y z s := by
  rw [exec_load, if_neg (not_and_or.mpr h)]

theorem r8_ne_atHl (r : Reg8) : r.r8 ≠ .atHl := by
  cases r <;> nofun

/-- R415, R417: the sum carries nothing into the page, so its two bytes are 0xFF and the operand. -/
theorem highPage_eq_append (n : Byte) : highPage n = 0xFF#8 ++ n := by
  change highPage n = concat 0xFF#8 n
  apply BitVec.eq_of_toNat_eq
  rw [concat_toNat, highPage]
  bv_omega

/-- Settles O12: with a register on one side it is a load and not HALT, and both operands are resolved before the read, the
one at HL to the address HL then holds. -/
theorem loadsBetweenRegistersAndMemoryAtHl : Obligations.LoadsBetweenRegistersAndMemoryAtHl := by
  unfold Obligations.LoadsBetweenRegistersAndMemoryAtHl
  intro len y z s
  refine ⟨encode_load len y.r8 z.r8, ?_, encode_load len y.r8 .atHl, ?_, encode_load len .atHl z.r8, ?_⟩
  · simp [exec_load_of_ne_atHl (.inl (r8_ne_atHl y)), loadFrom]
  · simp [exec_load_of_ne_atHl (.inl (r8_ne_atHl y)), loadFrom]
  · simp [exec_load_of_ne_atHl (.inr (r8_ne_atHl z)), loadFrom]

/-- Settles O13: one meaning for every destination, which resolves to the register or to the address in HL. -/
theorem immediateByteLoads : Obligations.ImmediateByteLoads := by
  unfold Obligations.ImmediateByteLoads
  intro len y n s
  refine ⟨encode_loadImm len y.r8 n, ?_, encode_loadImm len .atHl n, exec_loadImm .atHl n s⟩
  simp [exec_loadImm, loadByte]

/-- Settles O14: the four members of one family, each with its pair's side effect after the store. -/
theorem indirectStoresOfA : Obligations.IndirectStoresOfA := by
  unfold Obligations.IndirectStoresOfA
  intro len s
  exact ⟨encode_storeInd len .bc, exec_storeInd .bc s, encode_storeInd len .de, exec_storeInd .de s,
    encode_storeInd len .hlInc, exec_storeInd .hlInc s, encode_storeInd len .hlDec, exec_storeInd .hlDec s⟩

/-- Settles O15: the four members of one family, each with its pair's side effect after the load. -/
theorem indirectLoadsOfA : Obligations.IndirectLoadsOfA := by
  unfold Obligations.IndirectLoadsOfA
  intro len s
  exact ⟨encode_loadInd len .bc, exec_loadInd .bc s, encode_loadInd len .de, exec_loadInd .de s,
    encode_loadInd len .hlInc, exec_loadInd .hlInc s, encode_loadInd len .hlDec, exec_loadInd .hlDec s⟩

/-- Settles O16: once the page's addresses are written as the sums of R415 and R417, each clause is the row or the
meaning itself. -/
theorem absoluteAndHighPageLoads : Obligations.AbsoluteAndHighPageLoads := by
  unfold Obligations.AbsoluteAndHighPageLoads
  intro len nn n s
  rw [← highPage_eq_append n, ← highPage_eq_append s.c]
  exact ⟨rfl, rfl, rfl, rfl, rfl, rfl, rfl, rfl, rfl, rfl, rfl, rfl⟩

end Sys2Proof.Machine
end

section
/-! The 16-bit loads and the stack (R500 to R508): a pair pushed is the pair popped. -/

namespace Sys2Proof.Machine

/-- R102, R112: a pair written with the value it has. F comes back too, as its reserved bits are no state. -/
@[simp] theorem State.setRp2_rp2 (s : State) (q : Rp2) : s.setRp2 q (s.rp2 q) = s := by
  cases q <;> simp [State.setRp2, State.rp2, State.setBc, State.bc, State.setDe, State.de, State.setHl, State.hl]

/-- R500, R501: on the RAM bus `Pop16` takes back the word `Push16` stored, and SP with it. -/
theorem State.pop16_push16 {s : State} (v : Word) (hwf : s.memWf = true) (hram : s.bus.answers = []) :
    ∃ bus, (s.push16 v).pop16 = (v, { s with bus := bus }) := by
  have hvalue : (s.push16 v).pop16.1 = v :=
    State.busRead16_busWrite16 (s := { s with sp := s.sp - 2 }) (s.sp - 2) v hwf hram
  have hsp : s.sp - 2 + 2 = s.sp := BitVec.sub_add_cancel s.sp 2
  refine ⟨(s.push16 v).pop16.2.bus, Prod.ext hvalue ?_⟩
  calc (s.push16 v).pop16.2
      = { s with sp := s.sp - 2 + 2, bus := (s.push16 v).pop16.2.bus } := rfl
    _ = { s with bus := (s.push16 v).pop16.2.bus } := by rw [hsp]

/-- Settles O21: POP takes the word PUSH stored, and a pair written with its own value is as it was. -/
theorem pushThenPopRestoresThePair : Obligations.PushThenPopRestoresThePair := by
  unfold Obligations.PushThenPopRestoresThePair
  intro q s hwf hram
  obtain ⟨bus, hpop⟩ := State.pop16_push16 (s.rp2 q) hwf hram
  refine ⟨s.push16 (s.rp2 q), bus, exec_push q s, ?_⟩
  calc exec (.pop q) (s.push16 (s.rp2 q))
      = popPair q (s.push16 (s.rp2 q)) := exec_pop q _
    _ = .next ({ s with bus := bus }.setRp2 q (s.rp2 q)) := by rw [popPair, hpop]
    _ = .next { s with bus := bus } := congrArg _ (State.setRp2_rp2 { s with bus := bus } q)

/-- Settles O17: the families' row and meaning for LD rr,n16, and the two other loads' own. -/
theorem wordLoads : Obligations.WordLoads := by
  unfold Obligations.WordLoads
  intro len p nn s
  exact ⟨encode_loadRp len p nn, exec_loadRp p nn s, rfl, rfl, rfl, rfl⟩

/-- Settles O18: `Push16` is the two stores, and AF is A and the flag byte by its bits. -/
theorem pushStoresThePairBelowSp : Obligations.PushStoresThePairBelowSp := by
  unfold Obligations.PushStoresThePairBelowSp
  intro len q s
  refine ⟨encode_push len q, exec_push q s, highByte_concat s.a s.f.toByte, ?_⟩
  exact (lowByte_concat s.a s.f.toByte).trans s.f.toByte_eq_append

/-- R501, R507, R508: POP reads at SP and at SP + 1 and writes the two bytes to the pair as one word. -/
theorem exec_pop_eq_setRp2 (q : Rp2) (s : State) :
    exec (.pop q) s =
      .next ({ (s.afterRead s.sp).afterRead (s.sp + 1) with sp := s.sp + 2 }.setRp2 q
        (concat ((s.afterRead s.sp).answer (s.sp + 1)) (s.answer s.sp))) :=
  exec_pop q s

/-! R102, R112: a pair written as one word takes the word's two bytes. -/

theorem State.setRp2_bc_concat (s : State) (hi lo : Byte) :
    s.setRp2 .bc (concat hi lo) = { s with b := hi, c := lo } := by
  simp [State.setRp2, State.setBc]

theorem State.setRp2_de_concat (s : State) (hi lo : Byte) :
    s.setRp2 .de (concat hi lo) = { s with d := hi, e := lo } := by
  simp [State.setRp2, State.setDe]

theorem State.setRp2_hl_concat (s : State) (hi lo : Byte) :
    s.setRp2 .hl (concat hi lo) = { s with h := hi, l := lo } := by
  simp [State.setRp2, State.setHl]

theorem State.setRp2_af_concat (s : State) (hi lo : Byte) :
    s.setRp2 .af (concat hi lo) = { s with a := hi, f := Flags.ofByte lo } := by
  simp [State.setRp2]

/-- Settles O19: the two bytes read are the halves of the word written to the pair. -/
theorem popLoadsThePairFromSp : Obligations.PopLoadsThePairFromSp := by
  unfold Obligations.PopLoadsThePairFromSp
  rintro len s _ _ _ _ rfl rfl rfl rfl
  refine ⟨encode_pop len .bc, ?_, encode_pop len .de, ?_, encode_pop len .hl, ?_⟩
  · exact (exec_pop_eq_setRp2 .bc s).trans (congrArg _ (State.setRp2_bc_concat _ _ _))
  · exact (exec_pop_eq_setRp2 .de s).trans (congrArg _ (State.setRp2_de_concat _ _ _))
  · exact (exec_pop_eq_setRp2 .hl s).trans (congrArg _ (State.setRp2_hl_concat _ _ _))

/-- Settles O20: F is written by its four bits, so the low four of the byte popped are lost. -/
theorem popAfLoadsAAndTheFlags : Obligations.PopAfLoadsAAndTheFlags := by
  unfold Obligations.PopAfLoadsAAndTheFlags
  rintro len s _ _ _ _ rfl rfl rfl rfl
  exact ⟨encode_pop len .af, (exec_pop_eq_setRp2 .af s).trans (congrArg _ (State.setRp2_af_concat _ _ _))⟩

end Sys2Proof.Machine
end

section
/-! 8-bit arithmetic and logic (R600 to R619), and what DAA makes of a sum and of a difference of BCD bytes (R704). -/

namespace Sys2Proof.Machine

/-- R305, R602 to R617: the encodings and meanings of the two forms of an accumulator operation, where `after` says what
the operation makes of an operand's value and the state it is combined in. -/
theorem alu_forms {op : AluOp} {s : State} {after : Byte → State → State} (len : StopLength) (m : R8) (n : Byte)
    (h : ∀ v t, aluApply op v s.a s.f t = after v t) :
    encode len (.alu op m) = [0b10#2 ++ op.code ++ m.code] ∧
    exec (.alu op m) s = .next (after (s.locValue (s.resolve m)) (s.afterLocRead (s.resolve m))) ∧
    encode len (.aluImm op n) = [0b11#2 ++ op.code ++ 0b110#3, n] ∧
    exec (.aluImm op n) s = .next (after n s) :=
  ⟨encode_alu len op m, (exec_alu op m s).trans (congrArg _ (h _ _)), encode_aluImm len op n,
    (exec_aluImm op n s).trans (congrArg _ (h _ _))⟩

/-- R616: the difference is 0 exactly where the operands are equal. -/
theorem sub8_z (a b : Byte) : (sub8 a b false).flags.z = (a == b) := by
  have hz : (sub8 a b false).flags.z = (((a.toNat : Int) - b.toNat - 0) % 256 == 0) := rfl
  have ha := a.isLt
  have hb := b.isLt
  rw [hz, Bool.eq_iff_iff, beq_iff_eq, beq_iff_eq, ← BitVec.toNat_inj]
  omega

theorem aluApply_cp (v : Byte) (s t : State) :
    aluApply .cp v s.a s.f t = { t with
      f := { z := s.a == v, n := true, h := decide (s.a.toNat % 16 < v.toNat % 16),
             c := decide (s.a.toNat < v.toNat) } } := by
  rw [← sub8_z]
  rfl

/-- Settles O22: ADD adds 0 for the carry and ADC adds C; both are `Add8`. -/
theorem addAndAdcSetAAndTheFlags : Obligations.AddAndAdcSetAAndTheFlags := by
  unfold Obligations.AddAndAdcSetAAndTheFlags
  rintro len m n s op cin (⟨rfl, rfl⟩ | ⟨rfl, rfl⟩) _ rfl
  · exact alu_forms len m n fun _ _ => rfl
  · exact alu_forms len m n fun _ _ => rfl

/-- Settles O23: SUB takes 0 for the borrow and SBC takes C; both are `Sub8`. -/
theorem subAndSbcSetAAndTheFlags : Obligations.SubAndSbcSetAAndTheFlags := by
  unfold Obligations.SubAndSbcSetAAndTheFlags
  rintro len m n s op cin (⟨rfl, rfl⟩ | ⟨rfl, rfl⟩) _ rfl
  · exact alu_forms len m n fun _ _ => rfl
  · exact alu_forms len m n fun _ _ => rfl

/-- Settles O24: the flags are those of a difference without borrow, which is discarded. -/
theorem cpSetsOnlyTheFlags : Obligations.CpSetsOnlyTheFlags := by
  unfold Obligations.CpSetsOnlyTheFlags
  rintro len m n s _ rfl
  exact alu_forms len m n fun v t => aluApply_cp v s t

/-- Settles O25, by operation. -/
theorem logicSetsAAndTheFlags : Obligations.LogicSetsAAndTheFlags := by
  unfold Obligations.LogicSetsAAndTheFlags
  intro len m n s op f h hop
  have hafter (v : Byte) (t : State) : aluApply op v s.a s.f t =
      { t with a := f v, f := { z := f v == 0x00#8, n := false, h := h, c := false } } := by
    obtain ⟨rfl, rfl, rfl⟩ | ⟨rfl, rfl, rfl⟩ | ⟨rfl, rfl, rfl⟩ := hop
    · rfl
    · rfl
    · rfl
  exact alu_forms len m n hafter

/-- R618: INC at the location its operand resolves to. -/
theorem exec_inc_at {s : State} {m : R8} {loc : Loc} (h : s.resolve m = loc) :
    exec (.inc m) s = .next { (s.afterLocRead loc).writeLoc loc (s.locValue loc + 1) with
      f := (inc8 (s.locValue loc) s.f).flags } := by
  subst h
  exact exec_inc m s

/-- R619: DEC at the location its operand resolves to. -/
theorem exec_dec_at {s : State} {m : R8} {loc : Loc} (h : s.resolve m = loc) :
    exec (.dec m) s = .next { (s.afterLocRead loc).writeLoc loc (s.locValue loc - 1) with
      f := (dec8 (s.locValue loc) s.f).flags } := by
  subst h
  exact exec_dec m s

/-- Settles O26: one meaning for every operand, which resolves to the register or to the address in HL. -/
theorem incAndDecStepTheOperand : Obligations.IncAndDecStepTheOperand := by
  unfold Obligations.IncAndDecStepTheOperand
  rintro len r s _ _ rfl rfl
  exact ⟨encode_inc len r.r8, exec_inc_at (s.resolve_register r), encode_inc len .atHl, exec_inc_at s.resolve_atHl,
    encode_dec len r.r8, exec_dec_at (s.resolve_register r), encode_dec len .atHl, exec_dec_at s.resolve_atHl⟩

/-! Decimal arithmetic. In the steps of R704 the digits of a number stand as a nibble of units under its tens, which for
the sum of two BCD bytes may be as many as 19. -/

/-- The tens of a number over a nibble of its units, at full width. -/
def bcdNat (x : Nat) : Nat := x / 10 * 16 + x % 10

theorem bcdNat_lt {x : Nat} (hx : x < 100) : bcdNat x < 256 := by
  unfold bcdNat
  omega

theorem bcd_toNat {x : Nat} (hx : x < 100) : (bcd x).toNat = bcdNat x := Nat.mod_eq_of_lt (bcdNat_lt hx)

theorem bcdNat_mod_16 (x : Nat) : bcdNat x % 16 = x % 10 := by
  unfold bcdNat
  omega

theorem bcdNat_gt_0x99_iff (x : Nat) : 0x99 < bcdNat x ↔ 100 ≤ x := by
  unfold bcdNat
  omega

theorem bcdNat_add_hundred (x : Nat) : bcdNat (x + 100) = bcdNat x + 0xA0 := by
  unfold bcdNat
  omega

/-- Dropping a hundred, as the high step does it: 0x60 and a carry out of the byte. -/
theorem bcdNat_mod_hundred {x : Nat} (hx : x < 200) :
    bcdNat x + (if 100 ≤ x then 0x60 else 0) = bcdNat (x % 100) + if 100 ≤ x then 256 else 0 := by
  unfold bcdNat
  split <;> omega

/-- A sum of two numbers' digits is the digits of their sum, but for 6 where the units pass 9. -/
theorem bcdNat_add (x y : Nat) {c : Nat} (hc : c ≤ 1) :
    bcdNat (x + y + c) = bcdNat x + bcdNat y + c + if 9 < x % 10 + y % 10 + c then 6 else 0 := by
  unfold bcdNat
  split <;> omega

/-- The digits of a difference, from the sum that gives the minuend back, or the minuend and a hundred. -/
theorem bcdNat_sub {x y c : Nat} (hx : x < 100) (hy : y < 100) (hc : c ≤ 1) :
    bcdNat x + (if x < y + c then 0xA0 else 0) =
      bcdNat ((100 + x - y - c) % 100) + bcdNat y + c + if x % 10 < y % 10 + c then 6 else 0 := by
  have hsum : (100 + x - y - c) % 100 + y + c = if x < y + c then x + 100 else x := by
    split <;> omega
  have hunits : 9 < (100 + x - y - c) % 100 % 10 + y % 10 + c ↔ x % 10 < y % 10 + c := by omega
  rw [← if_congr hunits rfl rfl, ← bcdNat_add _ _ hc, hsum]
  split
  · exact (bcdNat_add_hundred x).symm
  · rfl

section
variable {x y : Nat} (hx : x < 100) (hy : y < 100) (c : Bool)
include hx hy

/-! DAA after an addition -/

theorem add8_bcd_value : (add8 (bcd x) (bcd y) c).value.toNat = (bcdNat x + bcdNat y + c.toNat) % 256 := by
  simp [add8, bcd_toNat hx, bcd_toNat hy]

theorem add8_bcd_carry :
    (add8 (bcd x) (bcd y) c).flags.c = decide (255 < bcdNat x + bcdNat y + c.toNat) := by
  simp [add8, bcd_toNat hx, bcd_toNat hy]

/-- The low step is made exactly where the units pass 9: past 15 they show in H, below that in the nibble. -/
theorem add8_bcd_lowStep :
    ((add8 (bcd x) (bcd y) c).flags.h = true ∨ 9 < (add8 (bcd x) (bcd y) c).value.toNat % 16) ↔
      9 < x % 10 + y % 10 + c.toNat := by
  have hc := c.toNat_le
  have hh : (add8 (bcd x) (bcd y) c).flags.h = decide (15 < x % 10 + y % 10 + c.toNat) := by
    simp [add8, bcd_toNat hx, bcd_toNat hy, bcdNat_mod_16]
  have hnibble : (bcdNat x + bcdNat y + c.toNat) % 256 % 16 = (x % 10 + y % 10 + c.toNat) % 16 := by
    rw [← bcdNat_mod_16 x, ← bcdNat_mod_16 y]
    omega
  rw [hh, decide_eq_true_eq, add8_bcd_value hx hy, hnibble]
  omega

/-- The low step leaves the digits of the decimal sum, but for the carry the addition made out of the byte. -/
theorem daaLowAdd_add8_bcd :
    daaLowAdd (add8 (bcd x) (bcd y) c).value (add8 (bcd x) (bcd y) c).flags +
      (if (add8 (bcd x) (bcd y) c).flags.c then 256 else 0) = bcdNat (x + y + c.toNat) := by
  have hc := c.toNat_le
  have hlt : bcdNat x + bcdNat y + c.toNat < 512 := by
    unfold bcdNat
    omega
  rw [bcdNat_add x y hc, daaLowAdd, if_congr (add8_bcd_lowStep hx hy c) rfl rfl, add8_bcd_value hx hy,
    add8_bcd_carry hx hy]
  simp only [decide_eq_true_eq]
  split_ifs <;> omega

/-- The high step is made exactly where the decimal sum passes 99. -/
theorem daaCarryAdd_add8_bcd :
    daaCarryAdd (add8 (bcd x) (bcd y) c).value (add8 (bcd x) (bcd y) c).flags = decide (100 ≤ x + y + c.toNat) := by
  rw [Bool.eq_iff_iff, decide_eq_true_eq, ← bcdNat_gt_0x99_iff, ← daaLowAdd_add8_bcd hx hy c, daaCarryAdd]
  cases (add8 (bcd x) (bcd y) c).flags.c with
  | false => simp
  | true =>
    simp only [Bool.true_or, if_true, true_iff]
    omega

theorem daaAdd_add8_bcd :
    daaAdd (add8 (bcd x) (bcd y) c).value (add8 (bcd x) (bcd y) c).flags % 256 =
      bcdNat ((x + y + c.toNat) % 100) := by
  have hc := c.toNat_le
  have hlow := daaLowAdd_add8_bcd hx hy c
  have hhigh := bcdNat_mod_hundred (show x + y + c.toNat < 200 by omega)
  have hbyte := bcdNat_lt (Nat.mod_lt (x + y + c.toNat) (show 0 < 100 by decide))
  rw [daaAdd, daaCarryAdd_add8_bcd hx hy]
  simp only [decide_eq_true_eq]
  split_ifs at hlow hhigh ⊢ <;> omega

/-- R605, R704: DAA after `Add8` of two BCD bytes. -/
theorem daa8_add8_bcd :
    (daa8 (add8 (bcd x) (bcd y) c).value (add8 (bcd x) (bcd y) c).flags).value = bcd ((x + y + c.toNat) % 100) ∧
    (daa8 (add8 (bcd x) (bcd y) c).value (add8 (bcd x) (bcd y) c).flags).flags.c =
      decide (100 ≤ x + y + c.toNat) := by
  refine ⟨BitVec.eq_of_toNat_eq ?_, daaCarryAdd_add8_bcd hx hy c⟩
  rw [bcd_toNat (Nat.mod_lt _ (by decide))]
  exact daaAdd_add8_bcd hx hy c

/-! DAA after a subtraction -/

theorem sub8_bcd_halfBorrow : (sub8 (bcd x) (bcd y) c).flags.h = decide (x % 10 < y % 10 + c.toNat) := by
  simp [sub8, bcd_toNat hx, bcd_toNat hy, bcdNat_mod_16]

theorem sub8_bcd_borrow : (sub8 (bcd x) (bcd y) c).flags.c = decide (x < y + c.toNat) := by
  have hc := c.toNat_le
  simp only [sub8, bcd_toNat hx, bcd_toNat hy, bcdNat, decide_eq_decide]
  omega

theorem sub8_bcd_value :
    ((sub8 (bcd x) (bcd y) c).value.toNat : Int) = ((bcdNat x : Int) - bcdNat y - c.toNat) % 256 := by
  have hpos : 0 ≤ ((bcdNat x : Int) - bcdNat y - c.toNat) % 256 := Int.emod_nonneg _ (by decide)
  simp only [sub8, bcd_toNat hx, bcd_toNat hy, BitVec.toNat_ofInt]
  exact Int.toNat_of_nonneg hpos

theorem daaSub_sub8_bcd :
    daaSub (sub8 (bcd x) (bcd y) c).value (sub8 (bcd x) (bcd y) c).flags % 256 =
      bcdNat ((100 + x - y - c.toNat) % 100) := by
  have hdigits := bcdNat_sub hx hy c.toNat_le
  have hbyte := bcdNat_lt (Nat.mod_lt (100 + x - y - c.toNat) (show 0 < 100 by decide))
  rw [daaSub, sub8_bcd_value hx hy, sub8_bcd_halfBorrow hx hy, sub8_bcd_borrow hx hy]
  simp only [decide_eq_true_eq]
  split_ifs at hdigits ⊢ <;> omega

/-- R609, R704: DAA after `Sub8` of two BCD bytes. -/
theorem daa8_sub8_bcd :
    (daa8 (sub8 (bcd x) (bcd y) c).value (sub8 (bcd x) (bcd y) c).flags).value =
      bcd ((100 + x - y - c.toNat) % 100) ∧
    (daa8 (sub8 (bcd x) (bcd y) c).value (sub8 (bcd x) (bcd y) c).flags).flags.c = decide (x < y + c.toNat) := by
  refine ⟨BitVec.eq_of_toNat_eq ?_, sub8_bcd_borrow hx hy c⟩
  rw [bcd_toNat (Nat.mod_lt _ (by decide))]
  exact congrArg Int.toNat (daaSub_sub8_bcd hx hy c)

end

/-- Settles O31: ADC leaves `Add8` of the two bytes, and DAA reads that sum and its flags. -/
theorem daaCorrectsDecimalAddition : Obligations.DaaCorrectsDecimalAddition := by
  unfold Obligations.DaaCorrectsDecimalAddition
  intro x y s hx hy ha
  have hdaa := daa8_add8_bcd hx hy s.f.c
  rw [← ha] at hdaa
  exact ⟨_, _, rfl, rfl, hdaa⟩

/-- Settles O32: SBC leaves `Sub8` of the two bytes, and DAA reads that difference and its flags. -/
theorem daaCorrectsDecimalSubtraction : Obligations.DaaCorrectsDecimalSubtraction := by
  unfold Obligations.DaaCorrectsDecimalSubtraction
  intro x y s hx hy ha
  have hdaa := daa8_sub8_bcd hx hy s.f.c
  rw [← ha] at hdaa
  exact ⟨_, _, rfl, rfl, hdaa⟩

end Sys2Proof.Machine
end

section
/-! Accumulator rotates, DAA and the flag operations (R700 to R707). A rotate is a shift that brings a bit in at the end
it leaves free: the old C, or the bit shifted out at the other end. -/

namespace Sys2Proof.Machine

theorem maskIf_lowest (c : Bool) : maskIf c 0x01#8 = 0#7 ++ BitVec.ofBool c := by
  cases c <;> rfl

theorem maskIf_highest (c : Bool) : maskIf c 0x80#8 = BitVec.ofBool c ++ 0#7 := by
  cases c <;> rfl

theorem extractLsb'_one (v : Byte) (i : Nat) : v.extractLsb' i 1 = BitVec.ofBool (v.getLsbD i) := by
  ext j hj
  simp [Nat.lt_one_iff.mp hj]

/-- R702, R1003. -/
theorem shiftValue_rl (v : Byte) (c : Bool) : shiftValue .rl v c = v.extractLsb' 0 7 ++ BitVec.ofBool c := by
  have hshift : v <<< 1 = v.extractLsb' 0 7 ++ 0#1 := BitVec.shiftLeft_eq_concat_of_lt (by decide)
  rw [shiftValue, hshift, maskIf_lowest, BitVec.or_append, BitVec.or_zero, BitVec.zero_or]

/-- R703, R1004. -/
theorem shiftValue_rr (v : Byte) (c : Bool) : shiftValue .rr v c = BitVec.ofBool c ++ v.extractLsb' 1 7 := by
  have hshift : v >>> 1 = 0#1 ++ v.extractLsb' 1 7 := BitVec.ushiftRight_eq_extractLsb'_of_lt (by decide)
  rw [shiftValue, hshift, maskIf_highest, BitVec.or_append, BitVec.or_zero, BitVec.zero_or]

/-- R700, R1001: the bit the rotate brings in at the bottom is all that a shift right by 7 leaves. -/
theorem shiftValue_rlc (v : Byte) (c : Bool) : shiftValue .rlc v c = v.rotateLeft 1 := by
  have hshift : v >>> 7 = 0#7 ++ v.extractLsb' 7 1 := BitVec.ushiftRight_eq_extractLsb'_of_lt (by decide)
  rw [shiftValue, maskIf_lowest, ← extractLsb'_one, ← hshift]
  rfl

/-- R701, R1002: the bit the rotate brings in at the top is all that a shift left by 7 leaves. -/
theorem shiftValue_rrc (v : Byte) (c : Bool) : shiftValue .rrc v c = v.rotateRight 1 := by
  have hshift : v <<< 7 = v.extractLsb' 0 1 ++ 0#7 := BitVec.shiftLeft_eq_concat_of_lt (by decide)
  rw [shiftValue, maskIf_highest, ← extractLsb'_one, ← hshift]
  rfl

/-- R700 to R703: an accumulator rotate, given the byte it yields. -/
theorem rotateA_of_value {op : ShiftOp} {s : State} {v : Byte} (h : shiftValue op s.a s.f.c = v) :
    rotateA op s = .next { s with a := v, f := { z := false, n := false, h := false, c := shiftCarry op s.a } } := by
  subst h
  rfl

/-- Settles O29: each is `rotateA`, and the byte it yields is the rotate's. -/
theorem accumulatorRotates : Obligations.AccumulatorRotates := by
  unfold Obligations.AccumulatorRotates
  rintro len s _ rfl
  exact ⟨rfl, rotateA_of_value (shiftValue_rlc _ _), rfl, rotateA_of_value (shiftValue_rrc _ _),
    rfl, rotateA_of_value (shiftValue_rl _ _), rfl, rotateA_of_value (shiftValue_rr _ _)⟩

/-! The steps of DAA after an addition, each as what it adds -/

theorem daaLowAdd_eq_add (a : Byte) (f : Flags) :
    daaLowAdd a f = a.toNat + (if f.h = true ∨ a.toNat % 16 > 9 then 0x06 else 0) := by
  rw [add_ite]
  rfl

theorem daaAdd_eq_add (a : Byte) (f : Flags) :
    daaAdd a f = daaLowAdd a f + (if daaCarryAdd a f then 0x60 else 0) := by
  rw [add_ite]
  rfl

/-- R704, N = 0. -/
theorem exec_daa_of_add {s : State} (hn : s.f.n = false) :
    exec .daa s = .next { s with
      a := BitVec.ofNat 8 (daaAdd s.a s.f),
      f := { z := daaAdd s.a s.f % 256 == 0, n := false, h := false, c := daaCarryAdd s.a s.f } } := by
  change execDaa s = _
  rw [execDaa, daa8, if_neg (ne_true_of_eq_false hn)]

/-- R704, N = 1. -/
theorem exec_daa_of_sub {s : State} (hn : s.f.n = true) :
    exec .daa s = .next { s with
      a := BitVec.ofInt 8 (daaSub s.a s.f),
      f := { z := daaSub s.a s.f % 256 == 0, n := true, h := false, c := s.f.c } } := by
  change execDaa s = _
  rw [execDaa, daa8, if_pos hn]

/-- Settles O30: N chooses between the two paths, and the numbers named are those of the path's steps. -/
theorem daaAdjustsA : Obligations.DaaAdjustsA := by
  unfold Obligations.DaaAdjustsA
  intro len s
  refine ⟨rfl, ?_, ?_⟩
  · rintro hn _ _ _ rfl rfl rfl
    rw [exec_daa_of_add hn, daaAdd_eq_add, daaCarryAdd, daaLowAdd_eq_add]
  · rintro hn _ rfl
    exact exec_daa_of_sub hn

/-- Settles O33: each clause is the model's own. -/
theorem complementAndCarryOperations : Obligations.ComplementAndCarryOperations := by
  unfold Obligations.ComplementAndCarryOperations
  intro len s
  exact ⟨rfl, rfl, rfl, rfl, rfl, rfl⟩

end Sys2Proof.Machine
end

section
/-! 16-bit arithmetic (R800 to R805) -/

namespace Sys2Proof

/-- R11, R800: adding the sign extension is adding the displacement as a signed number, modulo 65536. -/
theorem add_sext16 (v : Word) (e : Byte) : v + sext16 e = BitVec.ofInt 16 ((v.toNat : Int) + e.toInt) := by
  have hv : BitVec.ofInt 16 (v.toNat : Int) = v := by simp
  have he : BitVec.ofInt 16 e.toInt = sext16 e := rfl
  rw [BitVec.ofInt_add, hv, he]

end Sys2Proof

namespace Sys2Proof.Machine

/-- R800: the value is the signed sum, where H and C take the displacement byte unsigned. -/
theorem addSpE16_eq_signed_sum (sp : Word) (e : Byte) :
    addSpE16 sp e =
      { value := BitVec.ofInt 16 ((sp.toNat : Int) + e.toInt),
        flags := { z := false, n := false, h := decide (sp.toNat % 16 + e.toNat % 16 > 0xF),
                   c := decide (sp.toNat % 256 + e.toNat > 0xFF) } } := by
  rw [addSpE16, add_sext16]

/-- R804. -/
theorem exec_addSpE8 {e : Byte} {s : State} {r : Alu16} (h : addSpE16 s.sp e = r) :
    exec (.addSpE8 e) s = .next { s with sp := r.value, f := r.flags } := by
  subst h
  rfl

/-- R805. -/
theorem exec_ldHlSpE8 {e : Byte} {s : State} {r : Alu16} (h : addSpE16 s.sp e = r) :
    exec (.ldHlSpE8 e) s = .next { s with h := highByte r.value, l := lowByte r.value, f := r.flags } := by
  subst h
  rfl

/-- Settles O34: ADD HL,rr reads both pairs in the state it starts from; INC rr and DEC rr write their pair alone. -/
theorem wordArithmetic : Obligations.WordArithmetic := by
  unfold Obligations.WordArithmetic
  rintro len p s _ rfl
  exact ⟨encode_addHl len p, exec_addHl p s, encode_incRp len p, exec_incRp p s, encode_decRp len p, exec_decRp p s⟩

/-- Settles O35: both instructions take the value and the flags of one signed sum. -/
theorem spRelativeArithmetic : Obligations.SpRelativeArithmetic := by
  unfold Obligations.SpRelativeArithmetic
  rintro len e s _ _ rfl rfl
  have hsum := addSpE16_eq_signed_sum s.sp e
  exact ⟨rfl, exec_addSpE8 hsum, rfl, exec_ldHlSpE8 hsum⟩

end Sys2Proof.Machine
end

section
/-! CPU control (R900 to R904): one rule for each instruction. Each writes at most one of Halted, Stopped and IME. -/

namespace Sys2Proof.Machine

/-- R900. -/
@[simp] theorem exec_nop (s : State) : exec .nop s = .next s := by
  rfl

/-- R901: no premise on IME. -/
@[simp] theorem exec_halt (s : State) : exec .halt s = .next { s with halted := true } := by
  rfl

/-- R902: one meaning for every ignored byte. -/
@[simp] theorem exec_stop (ignored : Byte) (s : State) : exec (.stop ignored) s = .next { s with stopped := true } := by
  rfl

/-- R903. -/
@[simp] theorem exec_di (s : State) : exec .di s = .next { s with ime := false } := by
  rfl

/-- R904. -/
@[simp] theorem exec_ei (s : State) : exec .ei s = .next { s with ime := true } := by
  rfl

/-- Settles O36: each instruction's rule, and its bytes as the encoder writes them; STOP's length decides whether the
ignored byte is one of them. -/
theorem cpuControl : Obligations.CpuControl := by
  unfold Obligations.CpuControl
  intro ignored s
  exact ⟨rfl, exec_nop s, rfl, exec_halt s, rfl, rfl, exec_stop ignored s, rfl, exec_di s, rfl, exec_ei s⟩

end Sys2Proof.Machine
end

section
/-! The CB-prefixed set (R1000 to R1011): each family has one meaning for every operand, which resolves to the register
or to the address in HL. -/

namespace Sys2Proof.Machine

/-- R1009 to R1011: the mask of bit `b` has that bit and no other. -/
theorem getLsbD_mask (b : Nat) {k : Nat} (hk : k < 8) : (0x01#8 <<< b).getLsbD k = (k == b) := by
  calc (0x01#8 <<< b).getLsbD k = (decide (b < 8) && decide (b = k)) := BitVec.getLsbD_twoPow b k
    _ = (k == b) := by grind

/-- R1005. -/
theorem shiftValue_sla (v : Byte) (c : Bool) : shiftValue .sla v c = v.extractLsb' 0 7 ++ 0b0#1 :=
  BitVec.shiftLeft_eq_concat_of_lt (by decide)

/-- R1006: the old bit 7 is the sign that an arithmetic shift brings in at the top. -/
theorem shiftValue_sra (v : Byte) (c : Bool) : shiftValue .sra v c = v.sshiftRight 1 := by
  ext k hk
  have hmask : (0x80#8)[k] = (k == 7) := getLsbD_mask 7 hk
  obtain rfl | hlow : k = 7 ∨ k < 7 := by omega
  · simp [shiftValue, BitVec.getElem_sshiftRight, BitVec.msb_eq_getLsbD_last]
  · have hnext : 1 + k < 8 := by omega
    simp [shiftValue, BitVec.getElem_sshiftRight, hmask, hlow.ne, hnext]

/-- R1007: a shift by four each way leaves one nibble beside four zeros. -/
theorem shiftValue_swap (v : Byte) (c : Bool) : shiftValue .swap v c = v.extractLsb' 0 4 ++ v.extractLsb' 4 4 := by
  have hleft : v <<< 4 = v.extractLsb' 0 4 ++ 0#4 := BitVec.shiftLeft_eq_concat_of_lt (by decide)
  have hright : v >>> 4 = 0#4 ++ v.extractLsb' 4 4 := BitVec.ushiftRight_eq_extractLsb'_of_lt (by decide)
  rw [shiftValue, hleft, hright, BitVec.or_append, BitVec.or_zero, BitVec.zero_or]

/-- R1008. -/
theorem shiftValue_srl (v : Byte) (c : Bool) : shiftValue .srl v c = 0b0#1 ++ v.extractLsb' 1 7 :=
  BitVec.ushiftRight_eq_extractLsb'_of_lt (by decide)

/-- R1001 to R1008: the flags of a rotate or shift, given the byte it yields. -/
theorem shift8_of_value {op : ShiftOp} {v r : Byte} {c : Bool} (h : shiftValue op v c = r) :
    shift8 op v c = { value := r, flags := { z := r == 0x00#8, n := false, h := false, c := shiftCarry op v } } := by
  subst h
  rfl

/-- R1001 to R1008: a rotate or shift at the location its operand resolves to. -/
theorem exec_shift_at {op : ShiftOp} {s : State} {m : R8} {loc : Loc} {r : Alu8} (hloc : s.resolve m = loc)
    (hr : shift8 op (s.locValue loc) s.f.c = r) :
    exec (.shift op m) s = .next { (s.afterLocRead loc).writeLoc loc r.value with f := r.flags } := by
  subst hloc hr
  exact exec_shift op m s

/-- R1009: BIT at the location its operand resolves to. -/
theorem exec_bit_at {s : State} {m : R8} {loc : Loc} (b : Octal) (h : s.resolve m = loc) :
    exec (.bit b m) s = .next { s.afterLocRead loc with f := bitFlags (s.locValue loc) b.toNat s.f } := by
  subst h
  exact exec_bit b m s

/-- R1010: RES at the location its operand resolves to. -/
theorem exec_res_at {s : State} {m : R8} {loc : Loc} (b : Octal) (h : s.resolve m = loc) :
    exec (.res b m) s =
      .next ((s.afterLocRead loc).writeLoc loc (s.locValue loc &&& ~~~(0x01#8 <<< b.toNat))) := by
  subst h
  exact exec_res b m s

/-- R1011: SET at the location its operand resolves to. -/
theorem exec_set_at {s : State} {m : R8} {loc : Loc} (b : Octal) (h : s.resolve m = loc) :
    exec (.set b m) s = .next ((s.afterLocRead loc).writeLoc loc (s.locValue loc ||| (0x01#8 <<< b.toNat))) := by
  subst h
  exact exec_set b m s

/-- Settles O37: by operation for the byte and the bit shifted out, then once for every operand. -/
theorem rotatesAndShifts : Obligations.RotatesAndShifts := by
  unfold Obligations.RotatesAndShifts
  rintro len op r s val out hop fl rfl
  have hshift (v : Byte) : shift8 op v s.f.c =
      { value := val v, flags := { z := val v == 0x00#8, n := false, h := false, c := out v } } := by
    obtain ⟨rfl, rfl, rfl⟩ | ⟨rfl, rfl, rfl⟩ | ⟨rfl, rfl, rfl⟩ | ⟨rfl, rfl, rfl⟩ | ⟨rfl, rfl, rfl⟩ | ⟨rfl, rfl, rfl⟩ |
      ⟨rfl, rfl, rfl⟩ | ⟨rfl, rfl, rfl⟩ := hop
    · exact shift8_of_value (shiftValue_rlc v _)
    · exact shift8_of_value (shiftValue_rrc v _)
    · exact shift8_of_value (shiftValue_rl v _)
    · exact shift8_of_value (shiftValue_rr v _)
    · exact shift8_of_value (shiftValue_sla v _)
    · exact shift8_of_value (shiftValue_sra v _)
    · exact shift8_of_value (shiftValue_swap v _)
    · exact shift8_of_value (shiftValue_srl v _)
  exact ⟨encode_shift len op r.r8, exec_shift_at (s.resolve_register r) (hshift _), encode_shift len op .atHl,
    exec_shift_at s.resolve_atHl (hshift _)⟩

/-- Settles O38: the flags are `bitFlags`, and a location is read without being written. -/
theorem bitTestsOneBit : Obligations.BitTestsOneBit := by
  unfold Obligations.BitTestsOneBit
  rintro len b r s _ rfl
  exact ⟨encode_bit len b r.r8, exec_bit_at b (s.resolve_register r), encode_bit len b .atHl,
    exec_bit_at b s.resolve_atHl⟩

/-- Settles O39: RES clears and SET sets through the mask of bit `b`. -/
theorem resAndSetWriteOneBit : Obligations.ResAndSetWriteOneBit := by
  unfold Obligations.ResAndSetWriteOneBit
  intro len b r s
  refine ⟨(· &&& ~~~(0x01#8 <<< b.toNat)), (· ||| (0x01#8 <<< b.toNat)), ?_, ?_,
    encode_res len b r.r8, exec_res_at b (s.resolve_register r), encode_res len b .atHl, exec_res_at b s.resolve_atHl,
    encode_set len b r.r8, exec_set_at b (s.resolve_register r), encode_set len b .atHl, exec_set_at b s.resolve_atHl⟩
  · intro v k hk
    rw [BitVec.getLsbD_and, BitVec.getLsbD_not, getLsbD_mask _ hk, decide_eq_true hk, Bool.true_and, bne]
  · intro v k hk
    rw [BitVec.getLsbD_or, getLsbD_mask _ hk]

end Sys2Proof.Machine
end

section
/-! Control transfer (R1100 to R1111): a rule for each instruction outside the families, and what a taken or untaken
condition makes of a family's meaning. RET takes back the word CALL pushed, and SP with it. -/

namespace Sys2Proof.Machine

/-- R1101. -/
@[simp] theorem exec_jpN16 (nn : Word) (s : State) : exec (.jpN16 nn) s = .next { s with pc := nn } := by
  rfl

/-- R1103: the target is the pair, no byte at its address. -/
@[simp] theorem exec_jpHl (s : State) : exec .jpHl s = .next { s with pc := s.hl } := by
  rfl

/-- R1104. -/
@[simp] theorem exec_jrE8 (e : Byte) (s : State) : exec (.jrE8 e) s = .next (s.jumpRelative e) := by
  rfl

/-- R1106. -/
@[simp] theorem exec_callN16 (nn : Word) (s : State) : exec (.callN16 nn) s = .next (s.callTo nn) := by
  rfl

/-- R1108. -/
@[simp] theorem exec_ret (s : State) : exec .ret s = .next s.returnTo := by
  rfl

/-- R1109. -/
@[simp] theorem exec_reti (s : State) : exec .reti s = .next s.returnFromInterrupt := by
  rfl

/-- R1109: RETI is RET with IME set. -/
theorem State.returnFromInterrupt_eq_returnTo (s : State) :
    s.returnFromInterrupt = { s.returnTo with ime := true } := rfl

/-- R1104: the displacement is added as a signed number. -/
theorem State.jumpRelative_eq_signed_sum (s : State) (e : Byte) :
    s.jumpRelative e = { s with pc := BitVec.ofInt 16 ((s.pc.toNat : Int) + e.toInt) } := by
  rw [State.jumpRelative, add_sext16]

/-- R1102, R1105: of a jump only PC depends on the condition. -/
theorem State.ite_setPc (s : State) (taken : Bool) (target : Word) :
    (if taken then { s with pc := target } else s) = { s with pc := if taken then target else s.pc } := by
  cases taken <;> rfl

/-- R1100: the truth of a condition as the rule writes it out. -/
theorem condHolds_of_taken {cc : Cond} {f : Flags} {taken : Bool}
    (h : taken = (match cc with | .nz => !f.z | .z => f.z | .nc => !f.c | .c => f.c)) : condHolds cc f = taken := by
  rw [h]
  cases cc <;> rfl

/-- R1102. -/
theorem exec_jpCond_of_taken {cc : Cond} {s : State} {taken : Bool} (h : condHolds cc s.f = taken) (nn : Word) :
    exec (.jpCond cc nn) s = .next { s with pc := if taken then nn else s.pc } := by
  rw [exec_jpCond, jumpIf, h, State.ite_setPc]

/-- R1105. -/
theorem exec_jrCond_of_taken {cc : Cond} {s : State} {taken : Bool} (h : condHolds cc s.f = taken) (e : Byte) :
    exec (.jrCond cc e) s =
      .next { s with pc := if taken then BitVec.ofInt 16 ((s.pc.toNat : Int) + e.toInt) else s.pc } := by
  rw [exec_jrCond, jumpRelativeIf, h, State.jumpRelative_eq_signed_sum, State.ite_setPc]

/-- R1107. -/
theorem exec_callCond_of_taken {cc : Cond} {s : State} {taken : Bool} (h : condHolds cc s.f = taken) (nn : Word) :
    exec (.callCond cc nn) s = .next (if taken then s.callTo nn else s) := by
  rw [exec_callCond, callIf, h]

/-- R1110. -/
theorem exec_retCond_of_taken {cc : Cond} {s : State} {taken : Bool} (h : condHolds cc s.f = taken) :
    exec (.retCond cc) s = .next (if taken then s.returnTo else s) := by
  rw [exec_retCond, returnIf, h]

/-- R1106, R1108: on the RAM bus a return takes back the PC a call pushed, and SP; of the bus it reaches only the list
of calls, so the call's two stores stay. -/
theorem State.returnTo_callTo {s : State} (target : Word) (hwf : s.memWf = true) (hram : s.bus.answers = []) :
    ∃ calls, (s.callTo target).returnTo = { s with bus := { (s.callTo target).bus with calls := calls } } := by
  obtain ⟨bus, hpop⟩ := State.pop16_push16 s.pc hwf hram
  obtain ⟨calls, rfl⟩ : ∃ calls, bus = { (s.push16 s.pc).bus with calls := calls } :=
    ⟨_, congrArg (·.2.bus) (hpop.symm.trans (State.pop16_ram (s.push16 s.pc) hram))⟩
  refine ⟨calls, ?_⟩
  calc (s.callTo target).returnTo
      = (s.push16 s.pc).returnTo := rfl
    _ = { s with bus := { (s.callTo target).bus with calls := calls } } := by rw [State.returnTo, hpop]; rfl

/-- Settles O44: CALL and RST both make a call to their target, and RET is the return from it. -/
theorem retReturnsAfterCall : Obligations.RetReturnsAfterCall := by
  unfold Obligations.RetReturnsAfterCall
  intro i s hcall hwf hram
  have hexec : ∃ target, exec i s = .next (s.callTo target) := by
    obtain ⟨nn, rfl⟩ | ⟨y, rfl⟩ := hcall
    · exact ⟨_, exec_callN16 nn s⟩
    · exact ⟨_, exec_rst y s⟩
  obtain ⟨target, hexec⟩ := hexec
  obtain ⟨calls, hret⟩ := State.returnTo_callTo target hwf hram
  exact ⟨s.callTo target, _, hexec, (exec_ret _).trans (congrArg _ hret)⟩

/-- Settles O40: the condition decides PC alone, and JP HL reads the pair and not the bus. -/
theorem absoluteJumps : Obligations.AbsoluteJumps := by
  unfold Obligations.AbsoluteJumps
  intro len cc nn s taken htaken
  exact ⟨rfl, exec_jpN16 nn s, encode_jpCond len cc nn, exec_jpCond_of_taken (condHolds_of_taken htaken) nn, rfl,
    exec_jpHl s⟩

/-- Settles O41: PC is past the JR, and adding the sign extension is adding the signed displacement. -/
theorem relativeJumps : Obligations.RelativeJumps := by
  unfold Obligations.RelativeJumps
  rintro len cc e s taken _ htaken rfl
  exact ⟨rfl, (exec_jrE8 e s).trans (congrArg _ (s.jumpRelative_eq_signed_sum e)), encode_jrCond len cc e,
    exec_jrCond_of_taken (condHolds_of_taken htaken) e⟩

/-- Settles O42: all three make one call, the two stores of `Push16` with PC set to the target. -/
theorem callsPushTheReturnAddress : Obligations.CallsPushTheReturnAddress := by
  unfold Obligations.CallsPushTheReturnAddress
  rintro len cc nn y s taken _ htaken rfl
  exact ⟨rfl, exec_callN16 nn s, encode_callCond len cc nn, exec_callCond_of_taken (condHolds_of_taken htaken) nn,
    encode_rst len y, exec_rst y s⟩

/-- Settles O43: all three make one return, the two reads of `Pop16` with PC set to the word read. -/
theorem returnsPopThePc : Obligations.ReturnsPopThePc := by
  unfold Obligations.ReturnsPopThePc
  rintro len cc s taken _ _ htaken rfl rfl
  exact ⟨rfl, exec_ret s, rfl, exec_reti s, encode_retCond len cc,
    exec_retCond_of_taken (condHolds_of_taken htaken)⟩

end Sys2Proof.Machine
end

section
/-! The dispatcher's moves between ticks and the interrupt service made of them (R1204, R1206): a service is a call to
the vector by a core that has been woken with IME clear, so RETI is the return from it. -/

namespace Sys2Proof.Machine

/-- R1206: the core as a service wakes it, no move pending. -/
def State.wokenForService (s : State) : State := { s with ime := false, halted := false, events := [] }

/-- A move leaves the pending events alone. -/
theorem State.dispatcherMove_setEvents (s : State) (m : DispatcherMove) (events : List OutsideEvent) :
    State.dispatcherMove { s with events := events } m = { s.dispatcherMove m with events := events } := by
  cases m <;> rfl

/-- R1204: as many steps as moves are pending make those moves, in order. -/
theorem run_dispatcherMoves (moves : List DispatcherMove) (s : State) :
    core.run moves.length { s with events := moves.map .dispatcher } =
      .next (moves.foldl State.dispatcherMove { s with events := [] }) := by
  induction moves generalizing s with
  | nil => rfl
  | cons m rest ih =>
    calc core.run (rest.length + 1) { s with events := (m :: rest).map .dispatcher }
        = core.run rest.length (State.dispatcherMove { s with events := rest.map .dispatcher } m) := rfl
      _ = .next (rest.foldl State.dispatcherMove (State.dispatcherMove { s with events := [] } m)) := by
          rw [s.dispatcherMove_setEvents m (rest.map .dispatcher), s.dispatcherMove_setEvents m [], ih]

/-- R1206: the six moves of a service push PC below SP and go to the vector, as a call does. -/
theorem run_interruptService (s : State) (vector : Word) :
    core.run 6 { s with events := interruptService s vector } = .next (s.wokenForService.callTo vector) :=
  run_dispatcherMoves [.setIme false, .setHalted false, .setSp (s.sp - 2), .busWrite (s.sp - 2) (lowByte s.pc),
    .busWrite (s.sp - 2 + 1) (highByte s.pc), .setPc vector] s

/-- Settles O57: the service is a call and RETI its return, whose reads leave the RAM. -/
theorem interruptServiceAndRetiResumeTheProgram : Obligations.InterruptServiceAndRetiResumeTheProgram := by
  unfold Obligations.InterruptServiceAndRetiResumeTheProgram
  intro s vector hwf hram
  obtain ⟨calls, hret⟩ := State.returnTo_callTo (s := s.wokenForService) vector hwf hram
  have hreti : exec .reti (s.wokenForService.callTo vector) = .next { s with
      ime := true, halted := false, events := []
      bus := { (s.wokenForService.callTo vector).bus with calls := calls } } := by
    rw [exec_reti, State.returnFromInterrupt_eq_returnTo, hret]
    rfl
  have hhigh : s.sp - 1 = s.sp - 2 + 1 := by bv_omega
  rw [hhigh]
  exact ⟨s.wokenForService.callTo vector, _, run_interruptService s vector, rfl,
    s.wokenForService.push16_peek_low s.pc hwf, s.wokenForService.push16_peek_high s.pc hwf,
    s.wokenForService.push16_peek_other s.pc, hreti, rfl, hram, fun _ => rfl⟩

/-- Settles O56: the branch of the step that makes a move, and the one field each move writes. -/
theorem dispatcherMovesReachOnlyWhatIsExposed : Obligations.DispatcherMovesReachOnlyWhatIsExposed := by
  unfold Obligations.DispatcherMovesReachOnlyWhatIsExposed
  intro s m rest hnext
  refine ⟨_, step_of_dispatcher hnext, ?_⟩
  cases m <;> exact ⟨rfl, rfl, rfl, rfl, rfl, rfl, rfl, rfl, rfl, rfl, rfl, rfl, rfl, rfl, rfl⟩

end Sys2Proof.Machine
end
